-- ==== Sys2Proof/Word.lean ====
section
/-! DEFINITION. The word types of SHA512CE. Everything a program or a test could show wrong about words (shifts, rotations,
the SHA-512 functions) is in Machine/WordOps.lean; here stand the types alone. -/

namespace Sys2Proof

/-- A word: a 64-bit unsigned value (R8, R11, R14). Bit 0 is the least significant bit (R10); `+` on words is addition
modulo 2^64 with the carry out of bit 63 discarded (R121). -/
abbrev Word := BitVec 64

/-- A byte of a message or of a digest. Only the host procedures (45_host_procedures.md) see bytes; the engine sees none
(R66). -/
abbrev Byte := BitVec 8

end Sys2Proof
end

