-- ==== Sys2Proof/Syntax.lean ====
section
/-! DEFINITION. The syntax of what the host may send to SHA512CE: the registers of the window (R61), the host transactions
in the spec's two formats BUS and CMD (R90), the commands (R93), and the instructions, one constructor for each row of the
opcode table (R93, R94, R100). -/

namespace Sys2Proof

/-- A host-visible register of the register map (R61). -/
inductive Reg where
  | ctrl
  | status
  | msg (i : Fin 16)
  | h (j : Fin 8)
deriving DecidableEq, Repr

/-- The five commands of the opcode map (R93). -/
inductive Command where
  | nop
  | init
  | compress
  | zeroize
  | clearStatus
deriving DecidableEq, Repr

/-- A host transaction as it reaches the window (R90, R91). `read off n` is the BUS tuple (0, off, n, -), `write off n wdata`
the BUS tuple (1, off, n, wdata); the size `n` is any number of bytes, of which only 8 is legal (R62). `command v` is
format CMD: the word `v` written to CTRL, that is the transaction (1, 0x000, 8, v), taken as the command it carries
(R90, R92, R99). -/
inductive Transaction where
  | read (off : BitVec 9) (n : Nat)
  | write (off : BitVec 9) (n : Nat) (wdata : Word)
  | command (v : Word)
deriving DecidableEq, Repr

/-- The instructions: one constructor per row of spec/opcode_table.json, in the table's order. -/
inductive Instr where
  /-- NOP (R221). -/
  | nop
  /-- INIT (R222). -/
  | init
  /-- COMPRESS (R223). -/
  | compress
  /-- ZEROIZE (R224). -/
  | zeroize
  /-- CLEAR_STATUS (R225). -/
  | clearStatus
  /-- RESERVED_CMD_5: the illegal command word with OP = 0x5 and RSVD = 0 (R226). -/
  | reservedCmd5
  /-- RESERVED_CMD_6_7: an illegal command word with OP = 0x6 or 0x7 and RSVD = 0 (R226). -/
  | reservedCmd67 (op : BitVec 4)
  /-- RESERVED_CMD_8_F: an illegal command word with OP in 0x8..0xF and RSVD = 0 (R226). -/
  | reservedCmd8F (op : BitVec 4)
  /-- RD64_CTRL (R213). -/
  | rd64Ctrl
  /-- RD64_STATUS (R214). -/
  | rd64Status
  /-- RD64_MSG: read of MSG[i] (R215). -/
  | rd64Msg (i : Fin 16)
  /-- RD64_H: read of H[j] (R216). -/
  | rd64H (j : Fin 8)
  /-- WR64_CTRL: write of the command word `wdata` to CTRL, whatever that word is (R220). -/
  | wr64Ctrl (wdata : Word)
  /-- WR64_STATUS: the refused form (R219). -/
  | wr64Status (wdata : Word)
  /-- WR64_MSG: write of MSG[i] (R217). -/
  | wr64Msg (i : Fin 16) (wdata : Word)
  /-- WR64_H: write of H[j] (R218). -/
  | wr64H (j : Fin 8) (wdata : Word)
deriving DecidableEq, Repr

/-- Why a transaction is no instruction: it matches no row of the opcode table (R94 rows 1 and 2, R95, R100). The engine
answers each of them with a refusal of its own that sets a STATUS bit; none stops the machine. -/
inductive Reject where
  /-- The size is not 8 bytes (R63). -/
  | badSize
  /-- The offset is no multiple of 8 (R63). -/
  | misaligned
  /-- The offset is not in the register map (R64). -/
  | unmapped
  /-- The word has a bit of RSVD set (R95). -/
  | rsvdNonzero
deriving DecidableEq, Repr

end Sys2Proof
end

