-- ==== Sys2Proof/WellFormed.lean ====
section
/-! DEFINITION. Which instructions are well formed: those that stand for a word of their row of the opcode table. The
register indices are bounded by their types; what is left to check is the OP field of the reserved rows (R93, R100). -/

namespace Sys2Proof

/-- An instruction is well formed when its operands are ones its row of the opcode table admits. -/
def Instr.wellFormed : Instr → Bool
  | .nop => true
  | .init => true
  | .compress => true
  | .zeroize => true
  | .clearStatus => true
  | .reservedCmd5 => true
  | .reservedCmd67 op => op == 6 || op == 7
  | .reservedCmd8F op => 8 ≤ op.toNat
  | .rd64Ctrl => true
  | .rd64Status => true
  | .rd64Msg _ => true
  | .rd64H _ => true
  | .wr64Ctrl _ => true
  | .wr64Status _ => true
  | .wr64Msg _ _ => true
  | .wr64H _ _ => true

end Sys2Proof
end

