-- ==== Sys2Proof/Decode.lean ====
section
/-! DEFINITION. Decoding of host transactions and command words (30_encoding.md), total, refusing by name; then the encoder;
then the opcode table of R100 as masks and matches, and the words the table's rows stand for. -/

namespace Sys2Proof

/-! ### The register map -/

/-- The register at a byte offset of the window, for an offset that is a multiple of 8 (R61, R96): CTRL at 0x000, STATUS at
0x008, MSG[off[6:3]] where off[8:7] = 01, H[off[5:3]] where off[8:6] = 100; every other offset is unmapped. -/
def regAt (off : BitVec 9) : Option Reg :=
  if off = 0x000 then some .ctrl
  else if off = 0x008 then some .status
  else if off.extractLsb' 7 2 = 1 then some (.msg (off.extractLsb' 3 4).toFin)
  else if off.extractLsb' 6 3 = 4 then some (.h (off.extractLsb' 3 3).toFin)
  else none

/-- The byte offset of a register (R61): `off(REG)` of R98. -/
def Reg.offset : Reg → BitVec 9
  | .ctrl => 0x000
  | .status => 0x008
  | .msg i => 0x080 + 8 * BitVec.ofNat 9 i.val
  | .h j => 0x100 + 8 * BitVec.ofNat 9 j.val

/-! ### Command words (format CMD) -/

/-- The OP field of a command word, bits 3:0 (R92). -/
def cmdOp (v : Word) : BitVec 4 := v.extractLsb' 0 4

/-- The RSVD field of a command word, bits 63:4 (R92). -/
def cmdRsvd (v : Word) : BitVec 60 := v.extractLsb' 4 60

/-- The command a word carries, if it is a legal command word: RSVD = 0 and OP one of the five codes (R93, R95). -/
def commandOf (v : Word) : Option Command :=
  if cmdRsvd v ≠ 0 then none
  else if cmdOp v = 0 then some .nop
  else if cmdOp v = 1 then some .init
  else if cmdOp v = 2 then some .compress
  else if cmdOp v = 3 then some .zeroize
  else if cmdOp v = 4 then some .clearStatus
  else none

/-- The legal word of a command (R93). -/
def Command.word : Command → Word
  | .nop => 0
  | .init => 1
  | .compress => 2
  | .zeroize => 3
  | .clearStatus => 4

/-- The CMD row of a word (R93, R100): the five commands, the three reserved rows, or no row when RSVD is not 0. -/
def decodeCommand (v : Word) : Except Reject Instr :=
  if cmdRsvd v ≠ 0 then .error .rsvdNonzero
  else if cmdOp v = 0 then .ok .nop
  else if cmdOp v = 1 then .ok .init
  else if cmdOp v = 2 then .ok .compress
  else if cmdOp v = 3 then .ok .zeroize
  else if cmdOp v = 4 then .ok .clearStatus
  else if cmdOp v = 5 then .ok .reservedCmd5
  else if cmdOp v = 6 ∨ cmdOp v = 7 then .ok (.reservedCmd67 (cmdOp v))
  else .ok (.reservedCmd8F (cmdOp v))

/-! ### Transactions (format BUS) -/

/-- The register an access of `n` bytes at `off` names, or the reason it is refused: size, alignment and register map, in
the order of R94 (rows 1 and 2). -/
def busTarget (off : BitVec 9) (n : Nat) : Except Reject Reg :=
  if n ≠ 8 then .error .badSize
  else if off.extractLsb' 0 3 ≠ 0 then .error .misaligned
  else match regAt off with
    | some r => .ok r
    | none => .error .unmapped

/-- The instruction that reads a register (R94 rows 3 to 6). -/
def readInstr : Reg → Instr
  | .ctrl => .rd64Ctrl
  | .status => .rd64Status
  | .msg i => .rd64Msg i
  | .h j => .rd64H j

/-- The instruction that writes a register (R94 rows 7 to 10). -/
def writeInstr (wdata : Word) : Reg → Instr
  | .ctrl => .wr64Ctrl wdata
  | .status => .wr64Status wdata
  | .msg i => .wr64Msg i wdata
  | .h j => .wr64H j wdata

/-- The instruction a transaction is, or the name of the check it fails (R94, R100). -/
def decode : Transaction → Except Reject Instr
  | .read off n =>
    match busTarget off n with
    | .ok r => .ok (readInstr r)
    | .error e => .error e
  | .write off n wdata =>
    match busTarget off n with
    | .ok r => .ok (writeInstr wdata r)
    | .error e => .error e
  | .command v => decodeCommand v

/-! ### The encoder -/

/-- The transaction an instruction is sent as (R91, R93, R94): the CMD rows as their command word, the BUS rows as an 8-byte
access at their register's offset. -/
def encode : Instr → Transaction
  | .nop => .command 0x0
  | .init => .command 0x1
  | .compress => .command 0x2
  | .zeroize => .command 0x3
  | .clearStatus => .command 0x4
  | .reservedCmd5 => .command 0x5
  | .reservedCmd67 op => .command (op.setWidth 64)
  | .reservedCmd8F op => .command (op.setWidth 64)
  | .rd64Ctrl => .read 0x000 8
  | .rd64Status => .read 0x008 8
  | .rd64Msg i => .read (Reg.msg i).offset 8
  | .rd64H j => .read (Reg.h j).offset 8
  | .wr64Ctrl wdata => .write 0x000 8 wdata
  | .wr64Status wdata => .write 0x008 8 wdata
  | .wr64Msg i wdata => .write (Reg.msg i).offset 8 wdata
  | .wr64H j wdata => .write (Reg.h j).offset 8 wdata

/-! ### The opcode table's bits -/

/-- The 14-bit transaction key of R100: key[13] = dir, key[12:4] = off, key[3:0] = n. A size of 16 or more has no key, and a
command word is no BUS transaction. -/
def busKey : Transaction → Option (BitVec 14)
  | .read off n => if n < 16 then some (0#1 ++ off ++ BitVec.ofNat 4 n) else none
  | .write off n _ => if n < 16 then some (1#1 ++ off ++ BitVec.ofNat 4 n) else none
  | .command _ => none

/-- A BUS row of the opcode table: it applies to a key when `key AND mask = match` (R100). -/
structure BusRow where
  mnemonic : String
  mask : BitVec 14
  pattern : BitVec 14
deriving DecidableEq, Repr

/-- The eight BUS rows of spec/opcode_table.json, in its order (R100). -/
def busRows : List BusRow :=
  [ ⟨"RD64_CTRL", 0x3FFF, 0x0008⟩, ⟨"RD64_STATUS", 0x3FFF, 0x0088⟩,
    ⟨"RD64_MSG", 0x387F, 0x0808⟩, ⟨"RD64_H", 0x3C7F, 0x1008⟩,
    ⟨"WR64_CTRL", 0x3FFF, 0x2008⟩, ⟨"WR64_STATUS", 0x3FFF, 0x2088⟩,
    ⟨"WR64_MSG", 0x387F, 0x2808⟩, ⟨"WR64_H", 0x3C7F, 0x3008⟩ ]

/-- Whether a row applies to a key (R100). -/
def BusRow.applies (r : BusRow) (key : BitVec 14) : Bool := key &&& r.mask == r.pattern

/-- A CMD row of the opcode table, over the 64-bit command word (R100). -/
structure CmdRow where
  mnemonic : String
  mask : Word
  pattern : Word
deriving DecidableEq, Repr

/-- The eight CMD rows of spec/opcode_table.json, in its order (R93, R100). -/
def cmdRows : List CmdRow :=
  [ ⟨"NOP", 0xFFFFFFFFFFFFFFFF, 0x0⟩, ⟨"INIT", 0xFFFFFFFFFFFFFFFF, 0x1⟩,
    ⟨"COMPRESS", 0xFFFFFFFFFFFFFFFF, 0x2⟩, ⟨"ZEROIZE", 0xFFFFFFFFFFFFFFFF, 0x3⟩,
    ⟨"CLEAR_STATUS", 0xFFFFFFFFFFFFFFFF, 0x4⟩, ⟨"RESERVED_CMD_5", 0xFFFFFFFFFFFFFFFF, 0x5⟩,
    ⟨"RESERVED_CMD_6_7", 0xFFFFFFFFFFFFFFFE, 0x6⟩, ⟨"RESERVED_CMD_8_F", 0xFFFFFFFFFFFFFFF8, 0x8⟩ ]

/-- Whether a row applies to a command word (R100). -/
def CmdRow.applies (r : CmdRow) (v : Word) : Bool := v &&& r.mask == r.pattern

/-- The mnemonic of an instruction's row in spec/opcode_table.json. -/
def Instr.mnemonic : Instr → String
  | .nop => "NOP"
  | .init => "INIT"
  | .compress => "COMPRESS"
  | .zeroize => "ZEROIZE"
  | .clearStatus => "CLEAR_STATUS"
  | .reservedCmd5 => "RESERVED_CMD_5"
  | .reservedCmd67 _ => "RESERVED_CMD_6_7"
  | .reservedCmd8F _ => "RESERVED_CMD_8_F"
  | .rd64Ctrl => "RD64_CTRL"
  | .rd64Status => "RD64_STATUS"
  | .rd64Msg _ => "RD64_MSG"
  | .rd64H _ => "RD64_H"
  | .wr64Ctrl _ => "WR64_CTRL"
  | .wr64Status _ => "WR64_STATUS"
  | .wr64Msg _ _ => "WR64_MSG"
  | .wr64H _ _ => "WR64_H"

/-- The transaction whose bits are `w`. A 64-bit row is a command word (format CMD). Any other row is a BUS transaction: the
14-bit key of R100 in bits 13:0, nothing in bits 15:14, and the 64-bit data word of a write in bits 79:16, which a read does
not have (log entry 3); a table word gives the data word no bits, and it is then 0. -/
def transactionOfBits (nbits w : Nat) : Option Transaction :=
  if nbits = 64 then
    if w < 2 ^ 64 then some (.command (BitVec.ofNat 64 w)) else none
  else if 2 ^ 80 ≤ w then none
  else
    let bits := BitVec.ofNat 80 w
    if bits.extractLsb' 14 2 ≠ 0 then none
    else
      let off := bits.extractLsb' 4 9
      let n := (bits.extractLsb' 0 4).toNat
      let wdata := bits.extractLsb' 16 64
      if bits.extractLsb' 13 1 = 1 then some (.write off n wdata)
      else if wdata = 0 then some (.read off n)
      else none

/-- The instruction the decoder reads from a word of the opcode table. -/
def decodeTableWord (nbits w : Nat) : Option Instr :=
  match transactionOfBits nbits w with
  | some tx => (decode tx).toOption
  | none => none

end Sys2Proof
end

