-- ==== Sys2Proof/Machine/State.lean ====
section
/-! DEFINITION. The state of one SHA512CE instance (10_state.md R20), with two fields of the model's own beside it, the
faults and refusals, and the state right after reset (R37). -/

namespace Sys2Proof.Machine

/-- The working variables a..h: eight 64-bit words, hidden (R30). -/
structure Working where
  a : Word
  b : Word
  c : Word
  d : Word
  e : Word
  f : Word
  g : Word
  h : Word
deriving DecidableEq, Repr

/-- Who takes a step (R13): the host with one transaction, the engine with its enabled step, or the reset event. -/
inductive Turn where
  | host (tx : Transaction)
  | engine
  | reset
deriving DecidableEq, Repr

/-- The state record of R20, every element of it, and two fields of the model's own (log entries 1 and 2): `rdata`, the word
the last read transaction returned to the host, and `turns`, who takes the next steps. -/
structure State where
  /-- H[0..7], the hash state registers (R21). -/
  H : Vector Word 8
  /-- MSG[0..15], the message block registers (R23). -/
  MSG : Vector Word 16
  /-- STATUS bit 0 (R25, R26). -/
  busy : Bool
  /-- STATUS bit 1 (R25, R27). -/
  done : Bool
  /-- STATUS bit 2, sticky (R25, R28). -/
  errAcc : Bool
  /-- STATUS bit 3, sticky (R25, R28). -/
  errBusy : Bool
  /-- STATUS bit 4, sticky (R25, R28). -/
  errCmd : Bool
  /-- a..h, the working variables, hidden (R30). -/
  vars : Working
  /-- W[0..79], the message schedule, hidden (R31). -/
  W : Vector Word 80
  /-- t, the round counter, 0..80, hidden (R32, R34). -/
  t : Fin 81
  /-- THE MODEL'S OWN: the 64-bit rdata of the last read transaction (R91, R211). -/
  rdata : Word
  /-- THE MODEL'S OWN: the agents that take the next steps, the first one first (R13, R75, R76). -/
  turns : List Turn
deriving DecidableEq, Repr

/-- The reasons a step stops the machine: there are none. The engine's own steps cannot fail (R195), every host transaction
has a defined outcome (R210), and what the spec calls an error is a STATUS bit, set in a next state (R260). -/
inductive Fault where
deriving DecidableEq, Repr

/-- The reasons a step has no meaning in this model. -/
inductive Refusal where
  /-- Raised by an arm of exec for an instruction of the opcode table that has no meaning yet; safe. No arm raises it now. -/
  | notModelled (mnemonic : String)
deriving DecidableEq, Repr

/-- The machine right after reset (R37, R281): everything the spec gives it is 0, H too (R283). Nothing has been read yet
(`rdata` is 0, log entry 2) and no agent's turn is laid down (`turns` is empty, log entry 1). -/
def State.reset : State where
  H := Vector.replicate 8 0
  MSG := Vector.replicate 16 0
  busy := false
  done := false
  errAcc := false
  errBusy := false
  errCmd := false
  vars := ⟨0, 0, 0, 0, 0, 0, 0, 0⟩
  W := Vector.replicate 80 0
  t := 0
  rdata := 0
  turns := []

end Sys2Proof.Machine
end

