-- ==== Sys2Proof/Machine/Flags.lean ====
section
/-! DEFINITION. The STATUS register (10_state.md R25 to R28). The datapath has no flags (R29, R120): STATUS is the only place
where an outcome is recorded. -/

namespace Sys2Proof.Machine

/-- The error codes: each is its STATUS bit (R261). -/
inductive ErrorBit where
  /-- A refused access: bit 2. -/
  | acc
  /-- An access or command refused because BUSY = 1: bit 3. -/
  | busy
  /-- An illegal command word: bit 4. -/
  | cmd
deriving DecidableEq, Repr

/-- A single bit as a 1-bit value. -/
def bit (b : Bool) : BitVec 1 := if b then 1#1 else 0#1

/-- What a read of STATUS returns: `zext_64(ERR_CMD || ERR_BUSY || ERR_ACC || DONE || BUSY)` (R25, R214). -/
def statusWord (s : State) : Word :=
  (bit s.errCmd ++ bit s.errBusy ++ bit s.errAcc ++ bit s.done ++ bit s.busy).setWidth 64

/-- The state with one error bit set and the others as they were (R264). -/
def setError (e : ErrorBit) (s : State) : State :=
  match e with
  | .acc => { s with errAcc := true }
  | .busy => { s with errBusy := true }
  | .cmd => { s with errCmd := true }

/-- The error bit a transaction sets that matches no row of the opcode table (R94 rows 1 and 2, R95). -/
def errorOf : Reject → ErrorBit
  | .badSize => .acc
  | .misaligned => .acc
  | .unmapped => .acc
  | .rsvdNonzero => .cmd

end Sys2Proof.Machine
end

