-- ==== Sys2Proof/Machine/Operands.lean ====
section
/-! DEFINITION. The operands of the transactions: the registers of the window and the 64-bit values they read as. Transfers
are word transfers, bit for bit, with no extension, scaling or byte order (R66, R96). -/

namespace Sys2Proof.Machine

/-- The value an accepted read of a register returns: 0 for CTRL, which has no storage (R24, R213), the status word (R214),
MSG[i] (R215), H[j] (R216). -/
def regValue (s : State) : Reg → Word
  | .ctrl => 0
  | .status => statusWord s
  | .msg i => s.MSG[i]
  | .h j => s.H[j]

/-- The window at a byte offset, apart from the busy gate: the value of the register there, or none at an offset that is
misaligned or unmapped (R61, R63, R64). -/
def window (s : State) (off : BitVec 9) : Option Word :=
  match busTarget off 8 with
  | .ok r => some (regValue s r)
  | .error _ => none

end Sys2Proof.Machine
end

