-- ==== Sys2Proof/Machine/Ops.lean ====
section
/-! DEFINITION. The shared operations of the host's transactions. SHA512CE takes no exception (R260); what stands in the place
of taking one is the refusal of a transaction, ONE operation for every cause (`refuse`), and in the place of the return from
one CLEAR_STATUS (R265), in Machine/Commands.lean. -/

namespace Sys2Proof.Machine

/-- `raise E` for a transaction that is no read (R12, R262): the error bit is set and nothing else happens. -/
def refuse (e : ErrorBit) (s : State) : State := setError e s

/-- `raise E` for a read (R12, R211, R262): the error bit is set and the host gets 0. -/
def refuseRead (e : ErrorBit) (s : State) : State := { setError e s with rdata := 0 }

/-- An accepted read: the host gets `v`, and nothing else happens (R72, R211). -/
def answer (v : Word) (s : State) : State := { s with rdata := v }

/-- A read that the busy gate holds back (R210, step 3). -/
def gatedRead (v : Word) (s : State) : State := if s.busy then refuseRead .busy s else answer v s

/-- A write or command that the busy gate holds back (R210, step 3): `accepted` is the state it leads to when BUSY = 0. -/
def gated (s accepted : State) : State := if s.busy then refuse .busy s else accepted

/-- `MSG[i] <- v` (R217). -/
def setMsg (i : Fin 16) (v : Word) (s : State) : State := { s with MSG := s.MSG.set i v }

/-- `H[j] <- v` (R218). -/
def setH (j : Fin 8) (v : Word) (s : State) : State := { s with H := s.H.set j v }

/-- The refusal of a transaction that is no instruction (R94 rows 1 and 2, R95): a read then returns 0. -/
def rejectTransaction (tx : Transaction) (e : Reject) (s : State) : State :=
  match tx with
  | .read _ _ => refuseRead (errorOf e) s
  | .write _ _ _ => refuse (errorOf e) s
  | .command _ => refuse (errorOf e) s

/-- The reset event (R280): every state element takes its reset value, in one step. What the host has already read and the
turns still to come are no state of the engine (R20) and stay. -/
def resetEvent (s : State) : State := { State.reset with rdata := s.rdata, turns := s.turns }

end Sys2Proof.Machine
end

