-- ==== Sys2Proof/Machine/Reads.lean ====
section
/-! DEFINITION. The read transactions RD64 (44_commands.md section 2). CTRL and STATUS are read whether or not BUSY = 1; MSG
and H stand behind the busy gate (R210). -/

namespace Sys2Proof.Machine

/-- RD64 CTRL (R213): 0, with no error bit. -/
def execRd64Ctrl (s : State) : Host.Outcome State Fault Refusal := .next (answer (regValue s .ctrl) s)

/-- RD64 STATUS (R214): reading clears nothing. -/
def execRd64Status (s : State) : Host.Outcome State Fault Refusal := .next (answer (regValue s .status) s)

/-- RD64 MSGi (R215). -/
def execRd64Msg (i : Fin 16) (s : State) : Host.Outcome State Fault Refusal :=
  .next (gatedRead (regValue s (.msg i)) s)

/-- RD64 Hj (R216). -/
def execRd64H (j : Fin 8) (s : State) : Host.Outcome State Fault Refusal :=
  .next (gatedRead (regValue s (.h j)) s)

end Sys2Proof.Machine
end

