-- ==== Sys2Proof/Machine/WordOps.lean ====
section
/-! DEFINITION. The datapath operations on 64-bit words (40_word_ops.md): each is total, sets no flag and cannot fail (R120).
ADD64, AND, OR, XOR and NOT are the bit vectors' own `+`, `&&&`, `|||`, `^^^`, `~~~` (R121, R122, R124). -/

namespace Sys2Proof.Machine

/-- SHR^n(x), the right shift with zero fill (R125). -/
def shr (n : Nat) (x : Word) : Word := x >>> n

/-- ROTR^n(x), the right rotation, for 0 < n < 64 (R126): `SHR^n(x) | ((x * 2^(64-n)) mod 2^64)`. -/
def rotr (n : Nat) (x : Word) : Word := shr n x ||| (x <<< (64 - n))

/-- Ch(x, y, z), choice (R127). -/
def ch (x y z : Word) : Word := (x &&& y) ^^^ (~~~x &&& z)

/-- Maj(x, y, z), majority (R128). -/
def maj (x y z : Word) : Word := (x &&& y) ^^^ (x &&& z) ^^^ (y &&& z)

/-- Σ0 (R129). -/
def bigSigma0 (x : Word) : Word := rotr 28 x ^^^ rotr 34 x ^^^ rotr 39 x

/-- Σ1 (R130). -/
def bigSigma1 (x : Word) : Word := rotr 14 x ^^^ rotr 18 x ^^^ rotr 41 x

/-- σ0 (R131). -/
def smallSigma0 (x : Word) : Word := rotr 1 x ^^^ rotr 8 x ^^^ shr 7 x

/-- σ1 (R132). -/
def smallSigma1 (x : Word) : Word := rotr 19 x ^^^ rotr 61 x ^^^ shr 6 x

end Sys2Proof.Machine
end

