-- ==== Sys2Proof/Machine/Schedule.lean ====
section
/-! DEFINITION. The message schedule (41_schedule.md). -/

namespace Sys2Proof.Machine

/-- The first `16 + k` words of the schedule: the block itself (R150), then `k` words of the recurrence, each computed from
the words before it (R151). The new word is W[t] with t = 16 + k, so W[t-2], W[t-7], W[t-15] and W[t-16] stand at
14 + k, 9 + k, 1 + k and k. -/
def expandSchedule (block : Vector Word 16) : (k : Nat) → Vector Word (16 + k)
  | 0 => block
  | k + 1 =>
    let w := expandSchedule block k
    w.push (smallSigma1 w[14 + k] + w[9 + k] + smallSigma0 w[1 + k] + w[k])

/-- W[0..79] of a block (R150, R151). -/
def schedule (block : Vector Word 16) : Vector Word 80 := expandSchedule block 64

end Sys2Proof.Machine
end

