-- ==== Sys2Proof/Machine/Rounds.lean ====
section
/-! DEFINITION. The round constants, the round function and the 80-round permutation (42_rounds.md). -/

namespace Sys2Proof.Machine

/-- K[0..19] (R165). -/
def roundConstants0 : List Word :=
  [ 0x428A2F98D728AE22, 0x7137449123EF65CD, 0xB5C0FBCFEC4D3B2F, 0xE9B5DBA58189DBBC,
    0x3956C25BF348B538, 0x59F111F1B605D019, 0x923F82A4AF194F9B, 0xAB1C5ED5DA6D8118,
    0xD807AA98A3030242, 0x12835B0145706FBE, 0x243185BE4EE4B28C, 0x550C7DC3D5FFB4E2,
    0x72BE5D74F27B896F, 0x80DEB1FE3B1696B1, 0x9BDC06A725C71235, 0xC19BF174CF692694,
    0xE49B69C19EF14AD2, 0xEFBE4786384F25E3, 0x0FC19DC68B8CD5B5, 0x240CA1CC77AC9C65 ]

/-- K[20..39] (R165). -/
def roundConstants1 : List Word :=
  [ 0x2DE92C6F592B0275, 0x4A7484AA6EA6E483, 0x5CB0A9DCBD41FBD4, 0x76F988DA831153B5,
    0x983E5152EE66DFAB, 0xA831C66D2DB43210, 0xB00327C898FB213F, 0xBF597FC7BEEF0EE4,
    0xC6E00BF33DA88FC2, 0xD5A79147930AA725, 0x06CA6351E003826F, 0x142929670A0E6E70,
    0x27B70A8546D22FFC, 0x2E1B21385C26C926, 0x4D2C6DFC5AC42AED, 0x53380D139D95B3DF,
    0x650A73548BAF63DE, 0x766A0ABB3C77B2A8, 0x81C2C92E47EDAEE6, 0x92722C851482353B ]

/-- K[40..59] (R165). -/
def roundConstants2 : List Word :=
  [ 0xA2BFE8A14CF10364, 0xA81A664BBC423001, 0xC24B8B70D0F89791, 0xC76C51A30654BE30,
    0xD192E819D6EF5218, 0xD69906245565A910, 0xF40E35855771202A, 0x106AA07032BBD1B8,
    0x19A4C116B8D2D0C8, 0x1E376C085141AB53, 0x2748774CDF8EEB99, 0x34B0BCB5E19B48A8,
    0x391C0CB3C5C95A63, 0x4ED8AA4AE3418ACB, 0x5B9CCA4F7763E373, 0x682E6FF3D6B2B8A3,
    0x748F82EE5DEFB2FC, 0x78A5636F43172F60, 0x84C87814A1F0AB72, 0x8CC702081A6439EC ]

/-- K[60..79] (R165). -/
def roundConstants3 : List Word :=
  [ 0x90BEFFFA23631E28, 0xA4506CEBDE82BDE9, 0xBEF9A3F7B2C67915, 0xC67178F2E372532B,
    0xCA273ECEEA26619C, 0xD186B8C721C0C207, 0xEADA7DD6CDE0EB1E, 0xF57D4F7FEE6ED178,
    0x06F067AA72176FBA, 0x0A637DC5A2C898A6, 0x113F9804BEF90DAE, 0x1B710B35131C471B,
    0x28DB77F523047D84, 0x32CAAB7B40C72493, 0x3C9EBE0A15C9BEBC, 0x431D67C49C100D4C,
    0x4CC5D4BECB3E42B6, 0x597F299CFC657E2A, 0x5FCB6FAB3AD6FAEC, 0x6C44198C4A475817 ]

/-- The table K[0..79] (R165): hardwired, read-only, changed by no command and no reset. -/
def roundConstants : List Word := roundConstants0 ++ roundConstants1 ++ roundConstants2 ++ roundConstants3

/-- K[t] (R165). -/
def roundConstant (t : Fin 80) : Word := roundConstants[t.val]'(by exact t.isLt)

/-- One round with constant `k` and schedule word `w` (R166); every right-hand side is taken from the state before it (R12). -/
def round (k w : Word) (v : Working) : Working :=
  let t1 := v.h + bigSigma1 v.e + ch v.e v.f v.g + k + w
  let t2 := bigSigma0 v.a + maj v.a v.b v.c
  { h := v.g, g := v.f, f := v.e, e := v.d + t1, d := v.c, c := v.b, b := v.a, a := t1 + t2 }

/-- ROUND t on the working variables: K[t] and W[t] of its own index and no other (R167). -/
def roundAt (W : Vector Word 80) (t : Fin 80) (v : Working) : Working := round (roundConstant t) W[t] v

/-- The first `n` rounds, in the order t = 0, 1, ..., n-1 (R167). -/
def rounds (W : Vector Word 80) (v : Working) : (n : Nat) → n ≤ 80 → Working
  | 0, _ => v
  | n + 1, hn => roundAt W ⟨n, hn⟩ (rounds W v n (Nat.le_of_succ_le hn))

/-- The whole 80-round permutation P_W (R168). -/
def permutation (W : Vector Word 80) (v : Working) : Working := rounds W v 80 (Nat.le_refl 80)

/-- The inverse of one round with constant `k` and schedule word `w` (R169): a law of the model, which no hardware computes. -/
def inverseRound (k w : Word) (v : Working) : Working :=
  let a := v.b
  let b := v.c
  let c := v.d
  let e := v.f
  let f := v.g
  let g := v.h
  let t2 := bigSigma0 a + maj a b c
  let t1 := v.a - t2
  { a := a, b := b, c := c, d := v.e - t1, e := e, f := f, g := g, h := t1 - bigSigma1 e - ch e f g - k - w }

end Sys2Proof.Machine
end

