-- ==== Sys2Proof/Machine/Compression.lean ====
section
/-! DEFINITION. The initial hash value, the compression function and the engine's steps (43_compression.md). -/

namespace Sys2Proof.Machine

/-- IV[0..7] (R185): hardwired and read-only. -/
def initialHash : Vector Word 8 :=
  #v[0x6A09E667F3BCC908, 0xBB67AE8584CAA73B, 0x3C6EF372FE94F82B, 0xA54FF53A5F1D36F1,
     0x510E527FADE682D1, 0x9B05688C2B3E6C1F, 0x1F83D9ABFB41BD6B, 0x5BE0CD19137E2179]

/-- The working variables START loads from the hash state: a from H[0] through h from H[7] (R30, R187). -/
def workingOf (H : Vector Word 8) : Working := ⟨H[0], H[1], H[2], H[3], H[4], H[5], H[6], H[7]⟩

/-- The feed-forward: each working variable is added to its hash word, modulo 2^64 (R186, R189). -/
def feedForward (H : Vector Word 8) (v : Working) : Vector Word 8 :=
  #v[H[0] + v.a, H[1] + v.b, H[2] + v.c, H[3] + v.d, H[4] + v.e, H[5] + v.f, H[6] + v.g, H[7] + v.h]

/-- Compress(Hin, M) (R186): total. -/
def compress (Hin : Vector Word 8) (M : Vector Word 16) : Vector Word 8 :=
  feedForward Hin (permutation (schedule M) (workingOf Hin))

/-- START (R187), performed within the accepted COMPRESS. -/
def start (s : State) : State :=
  { s with W := schedule s.MSG, vars := workingOf s.H, t := 0, busy := true, done := false }

/-- ROUND (R188), for t < 80. -/
def roundStep (s : State) (ht : s.t.val < 80) : State :=
  { s with vars := roundAt s.W ⟨s.t.val, ht⟩ s.vars, t := ⟨s.t.val + 1, Nat.succ_lt_succ ht⟩ }

/-- FINISH (R189). The working variables and the schedule keep their values. -/
def finish (s : State) : State :=
  { s with H := feedForward s.H s.vars, t := 0, busy := false, done := true }

/-- The engine's turn: ROUND when BUSY = 1 and t < 80, FINISH when BUSY = 1 and t = 80, nothing when BUSY = 0, for then no
engine step is enabled (R188 to R190). -/
def engineStep (s : State) : State :=
  if s.busy then
    if ht : s.t.val < 80 then roundStep s ht else finish s
  else s

end Sys2Proof.Machine
end

