-- ==== Sys2Proof/Machine/Commands.lean ====
section
/-! DEFINITION. The commands (44_commands.md section 4) and the eight instructions of format CMD. -/

namespace Sys2Proof.Machine

/-- INIT when BUSY = 0 (R222). -/
def loadInitialHash (s : State) : State := { s with H := initialHash, done := false }

/-- ZEROIZE when BUSY = 0 (R224): the error bits stay. -/
def zeroizeState (s : State) : State :=
  { s with
    H := Vector.replicate 8 0
    MSG := Vector.replicate 16 0
    vars := ⟨0, 0, 0, 0, 0, 0, 0, 0⟩
    W := Vector.replicate 80 0
    t := 0
    done := false }

/-- CLEAR_STATUS (R225): the only return from an error but reset (R265). -/
def clearStatusBits (s : State) : State :=
  { s with errAcc := false, errBusy := false, errCmd := false, done := false }

/-- What a legal command does, the busy gate of INIT, COMPRESS and ZEROIZE included (R210 steps 3 and 4, R221 to R225). -/
def performCommand (s : State) : Command → State
  | .nop => s
  | .init => gated s (loadInitialHash s)
  | .compress => gated s (start s)
  | .zeroize => gated s (zeroizeState s)
  | .clearStatus => clearStatusBits s

/-- NOP (R221). -/
def execNop (s : State) : Host.Outcome State Fault Refusal := .next (performCommand s .nop)

/-- INIT (R222). -/
def execInit (s : State) : Host.Outcome State Fault Refusal := .next (performCommand s .init)

/-- COMPRESS (R223): START at once; the engine's rounds and FINISH are steps of its own. -/
def execCompress (s : State) : Host.Outcome State Fault Refusal := .next (performCommand s .compress)

/-- ZEROIZE (R224). -/
def execZeroize (s : State) : Host.Outcome State Fault Refusal := .next (performCommand s .zeroize)

/-- CLEAR_STATUS (R225). -/
def execClearStatus (s : State) : Host.Outcome State Fault Refusal := .next (performCommand s .clearStatus)

/-- RESERVED_CMD_5: an illegal command, refused with ERR_CMD whether or not BUSY = 1 (R226). -/
def execReservedCmd5 (s : State) : Host.Outcome State Fault Refusal := .next (refuse .cmd s)

/-- RESERVED_CMD_6_7: an illegal command, refused with ERR_CMD whichever OP it carries (R226). -/
def execReservedCmd67 (_op : BitVec 4) (s : State) : Host.Outcome State Fault Refusal := .next (refuse .cmd s)

/-- RESERVED_CMD_8_F: an illegal command, refused with ERR_CMD whichever OP it carries (R226). -/
def execReservedCmd8F (_op : BitVec 4) (s : State) : Host.Outcome State Fault Refusal := .next (refuse .cmd s)

end Sys2Proof.Machine
end

