-- ==== Sys2Proof/Machine/Writes.lean ====
section
/-! DEFINITION. The write transactions WR64 (44_commands.md section 3). -/

namespace Sys2Proof.Machine

/-- A write of the word `v` to CTRL (R220): an illegal word is refused with ERR_CMD even when BUSY = 1; a legal one is
performed, its own busy gate included. -/
def submitCommand (v : Word) (s : State) : State :=
  match commandOf v with
  | none => refuse .cmd s
  | some c => performCommand s c

/-- WR64 CTRL (R220). -/
def execWr64Ctrl (wdata : Word) (s : State) : Host.Outcome State Fault Refusal := .next (submitCommand wdata s)

/-- WR64 STATUS, the refused form (R219): ERR_ACC, whatever is written and whether or not BUSY = 1. -/
def execWr64Status (_wdata : Word) (s : State) : Host.Outcome State Fault Refusal := .next (refuse .acc s)

/-- WR64 MSGi (R217): DONE stays. -/
def execWr64Msg (i : Fin 16) (wdata : Word) (s : State) : Host.Outcome State Fault Refusal :=
  .next (gated s (setMsg i wdata s))

/-- WR64 Hj (R218): DONE stays. -/
def execWr64H (j : Fin 8) (wdata : Word) (s : State) : Host.Outcome State Fault Refusal :=
  .next (gated s (setH j wdata s))

end Sys2Proof.Machine
end

