-- ==== Sys2Proof/Machine/Dispatch.lean ====
section
/-! DEFINITION. The dispatch: one arm per instruction. -/

namespace Sys2Proof.Machine

-- One host transaction that is an instruction (R94, R210).
def exec (i : Instr) (s : State) : Host.Outcome State Fault Refusal :=
  match i with
  | .nop => Sys2Proof.Machine.execNop s
  | .init => Sys2Proof.Machine.execInit s
  | .compress => Sys2Proof.Machine.execCompress s
  | .zeroize => Sys2Proof.Machine.execZeroize s
  | .clearStatus => Sys2Proof.Machine.execClearStatus s
  | .reservedCmd5 => Sys2Proof.Machine.execReservedCmd5 s
  | .reservedCmd67 op => Sys2Proof.Machine.execReservedCmd67 op s
  | .reservedCmd8F op => Sys2Proof.Machine.execReservedCmd8F op s
  | .rd64Ctrl => Sys2Proof.Machine.execRd64Ctrl s
  | .rd64Status => Sys2Proof.Machine.execRd64Status s
  | .rd64Msg k => Sys2Proof.Machine.execRd64Msg k s
  | .rd64H k => Sys2Proof.Machine.execRd64H k s
  | .wr64Ctrl wdata => Sys2Proof.Machine.execWr64Ctrl wdata s
  | .wr64Status wdata => Sys2Proof.Machine.execWr64Status wdata s
  | .wr64Msg k wdata => Sys2Proof.Machine.execWr64Msg k wdata s
  | .wr64H k wdata => Sys2Proof.Machine.execWr64H k wdata s

end Sys2Proof.Machine
end

