-- ==== Sys2Proof/Machine/Step.lean ====
section
/-! DEFINITION. The step: the agent whose turn it is takes one step (R13). -/

namespace Sys2Proof.Machine

/-- One host step (R210): the transaction is decoded and its instruction executed; one that is no instruction is refused with
its error bit. -/
def hostStep (tx : Transaction) (s : State) : Host.Outcome State Fault Refusal :=
  match decode tx with
  | .ok i => exec i s
  | .error e => .next (rejectTransaction tx e s)

/-- One step. The first turn laid down decides the agent; when none is left the host is silent and the engine takes its
enabled step, or nothing happens (R13, R76, R190, R191; log entry 1). -/
def step (s : State) : Host.Outcome State Fault Refusal :=
  match s.turns with
  | [] => .next (engineStep s)
  | .host tx :: rest => hostStep tx { s with turns := rest }
  | .engine :: rest => .next (engineStep { s with turns := rest })
  | .reset :: rest => .next (resetEvent { s with turns := rest })

/-- The state in which the very next step is the host's transaction with these bits (`transactionOfBits`, log entry 3): it is
laid down as the first turn. Bits that are no transaction lay down nothing. -/
def State.withFetchWord (s : State) (nbits w : Nat) : State :=
  match transactionOfBits nbits w with
  | some tx => { s with turns := .host tx :: s.turns }
  | none => s

end Sys2Proof.Machine
end

