-- ==== Sys2Proof/Machine/HostProcedures.lean ====
section
/-! DEFINITION. The host procedures of 45_host_procedures.md as functions on bytes and words: padding, block split, word
packing, the block loop's value and the serialisation. They bind host software; the engine checks none of them (R240), and no
step of the machine calls one. -/

namespace Sys2Proof.Machine

/-- Whether the host procedure is defined for a message: at most 2^125 - 1 bits (R241). -/
def inDomain (m : List Byte) : Bool := decide (8 * m.length ≤ 2 ^ 125 - 1)

/-- z = (111 - ℓ) mod 128, the number of zero bytes of the padding (R242). -/
def padZeros (len : Nat) : Nat := ((111 - (len : Int)) % 128).toNat

/-- The `n` low bytes of `x`, most significant byte first (R242, R69). -/
def bigEndianBytes : (n x : Nat) → List Byte
  | 0, _ => []
  | n + 1, x => bigEndianBytes n (x / 256) ++ [BitVec.ofNat 8 x]

/-- Pad(m) (R242): the message, the byte 0x80, z zero bytes, and the bit length as 16 bytes, big-endian. -/
def pad (m : List Byte) : List Byte :=
  m ++ [0x80] ++ List.replicate (padZeros m.length) 0 ++ bigEndianBytes 16 (8 * m.length)

/-- The number N of blocks of a message of `len` bytes (R243). -/
def blockCount (len : Nat) : Nat := (len + 16) / 128 + 1

/-- Block k of a padded message: its bytes 128k..128k+127 (R244). -/
def blockAt (P : List Byte) (k : Nat) : List Byte := (P.drop (128 * k)).take 128

/-- BE64(B, i), the word the host writes to MSG[i] (R245, R67): byte 8i in bits 63:56 down to byte 8i+7 in bits 7:0. -/
def packWord (B : List Byte) (i : Nat) : Word :=
  BitVec.ofNat 64 ((List.range 8).foldl (fun acc k => acc * 256 + (B.getD (8 * i + k) 0).toNat) 0)

/-- The sixteen words of a block (R245). -/
def packBlock (B : List Byte) : Vector Word 16 := Vector.ofFn fun i => packWord B i.val

/-- The words of the padded message's blocks, in the order they are processed (R244). -/
def messageBlocks (m : List Byte) : List (Vector Word 16) :=
  (List.range (blockCount m.length)).map fun k => packBlock (blockAt (pad m) k)

/-- The hash state after the block loop: IV, then Compress over the blocks in order (R246). -/
def digestState (m : List Byte) : Vector Word 8 := (messageBlocks m).foldl compress initialHash

/-- Byte k of a word, most significant first: `w[63-8k:56-8k]` (R10, R68). -/
def wordByte (w : Word) (k : Nat) : Byte := w.extractLsb' (56 - 8 * k) 8

/-- Serialise(H0..H7): D[8j+k] is byte k of H[j] (R68, R247). -/
def serialise (H : Vector Word 8) : List Byte :=
  H.toList.flatMap fun w => (List.range 8).map (wordByte w)

/-- The digest of a message as a function of its bytes alone (R246, R250). A message outside the domain of R241 is refused at
host level (93_implementation_defined.md I16): it has none. -/
def digest (m : List Byte) : Option (List Byte) := if inDomain m then some (serialise (digestState m)) else none

end Sys2Proof.Machine
end

