-- ==== Sys2Proof/Config.lean ====
section
/-! DEFINITION. The parameters the spec leaves OPEN (R9): each is a constant without a body, so that no proof can know its
value and every claim holds for all of them. No step of the engine reads one. -/

namespace Sys2Proof

/-- N_ENGINES less one (R9, R270, D19): how many engine instances the platform holds beyond the first. -/
opaque Config.extraEngines : Nat

/-- COMPRESS_CYCLES less one (R9, R289, D12): the model has no clock, so nothing depends on it. -/
opaque Config.extraCompressCycles : Nat

/-- The free space, in units of 512 bytes, that the platform leaves below the window of instance `k` and above the window
before it (R9, R60, D2). With this the windows are 512-byte aligned and disjoint by construction. -/
opaque Config.windowGap : Nat → Nat

/-- `N_ENGINES` of R9: at least 1. -/
def Config.nEngines : Nat := Config.extraEngines + 1

/-- `COMPRESS_CYCLES` of R9: positive, the same for every COMPRESS whatever the data (R289). -/
def Config.compressCycles : Nat := Config.extraCompressCycles + 1

end Sys2Proof
end

