-- ==== Sys2Proof/Machine/Platform.lean ====
section
/-! DEFINITION. A platform with N_ENGINES instances (R9, R60, R270): each has its own window at its own BASE and its own state
record. What an address outside every window does is the platform's and not modelled (R64). -/

namespace Sys2Proof.Machine

/-- The instances of a platform, each with its own state (R270). -/
structure Platform where
  engines : List State
deriving DecidableEq, Repr

/-- The platform right after a reset of every instance. -/
def platformReset : Platform := ⟨List.replicate Config.nEngines State.reset⟩

/-- `BASE` of instance k: 512-byte aligned, the instances numbered by rising address (R9, R60; log entry 4). -/
def baseAddress : Nat → Nat
  | 0 => 512 * Config.windowGap 0
  | k + 1 => baseAddress k + 512 * (1 + Config.windowGap (k + 1))

/-- Whether an address lies in the 512-byte window of instance k (R60). -/
def inWindow (k addr : Nat) : Bool := baseAddress k ≤ addr && addr < baseAddress k + 512

/-- The instance an address reaches and the byte offset in its window, if it lies in one (R60, R64). -/
def Platform.locate (p : Platform) (addr : Nat) : Option (Nat × BitVec 9) :=
  match (List.range p.engines.length).find? (inWindow · addr) with
  | some k => some (k, BitVec.ofNat 9 (addr - baseAddress k))
  | none => none

/-- One step of instance k (R270): no other instance takes part. A k that is no instance leaves the platform as it is. -/
def Platform.stepAt (p : Platform) (k : Nat) : Host.Outcome Platform Fault Refusal :=
  match p.engines[k]? with
  | none => .next p
  | some s =>
    match step s with
    | .next s' => .next ⟨p.engines.set k s'⟩
    | .fault r => .fault r
    | .refused r => .refused r

/-- A host read of `n` bytes at a platform address: the turn is laid down at the instance it reaches (R60). -/
def Platform.read (p : Platform) (addr n : Nat) : Option Platform :=
  match p.locate addr with
  | none => none
  | some (k, off) => some ⟨p.engines.modify k fun s => { s with turns := s.turns ++ [.host (.read off n)] }⟩

/-- A host write of `n` bytes at a platform address: the turn is laid down at the instance it reaches (R60). -/
def Platform.write (p : Platform) (addr n : Nat) (wdata : Word) : Option Platform :=
  match p.locate addr with
  | none => none
  | some (k, off) => some ⟨p.engines.modify k fun s => { s with turns := s.turns ++ [.host (.write off n wdata)] }⟩

end Sys2Proof.Machine
end

