-- ==== Sys2Proof/Machine/BusAccess.lean ====
section
/-! DEFINITION. The procedure BusAccess of R210 as the spec writes it, check by check over the numbers of the BUS tuple. The
step does not call it: it decodes a transaction and executes its instruction (R94). That both agree is a statement. -/

namespace Sys2Proof.Machine

/-- The offset is one of MSG0..MSG15 (R61, R210), for an offset that passed the alignment check. -/
def inMsg (off : Nat) : Bool := 0x080 ≤ off && off ≤ 0x0F8

/-- The offset is one of H0..H7 (R61, R210), for an offset that passed the alignment check. -/
def inH (off : Nat) : Bool := 0x100 ≤ off && off ≤ 0x138

/-- `raise E` (R12): for a read (dir = 0) the returned word is 0 as well. -/
def raiseFor (dir : Bool) (e : ErrorBit) (s : State) : State := if dir then refuse e s else refuseRead e s

/-- BusAccess(dir, off, n, wdata) (R210), with `dir` true for a write; the rdata of a read is in the state. -/
def busAccess (dir : Bool) (off n : Nat) (wdata : Word) (s : State) : State :=
  let op := wdata.toNat % 16
  let rsvd := wdata.toNat / 16
  if n ≠ 8 ∨ off % 8 ≠ 0 then raiseFor dir .acc s
  else if ¬(off = 0x000 ∨ off = 0x008 ∨ inMsg off ∨ inH off) then raiseFor dir .acc s
  else if dir ∧ off = 0x008 then raiseFor dir .acc s
  else if (dir ∧ off = 0x000) ∧ (rsvd ≠ 0 ∨ op > 4) then raiseFor dir .cmd s
  else if s.busy ∧ (inMsg off ∨ inH off) then raiseFor dir .busy s
  else if s.busy ∧ (dir ∧ off = 0x000) ∧ (op = 1 ∨ op = 2 ∨ op = 3) then raiseFor dir .busy s
  else if dir then
    if off = 0x000 then
      if op = 0 then s
      else if op = 1 then loadInitialHash s
      else if op = 2 then start s
      else if op = 3 then zeroizeState s
      else clearStatusBits s
    else if inMsg off then { s with MSG := s.MSG.setIfInBounds ((off - 0x080) / 8) wdata }
    else { s with H := s.H.setIfInBounds ((off - 0x100) / 8) wdata }
  else
    if off = 0x000 then { s with rdata := 0 }
    else if off = 0x008 then { s with rdata := statusWord s }
    else if inMsg off then { s with rdata := s.MSG.toArray.getD ((off - 0x080) / 8) 0 }
    else { s with rdata := s.H.toArray.getD ((off - 0x100) / 8) 0 }

/-- The procedure on a transaction: a command word is a write of it to CTRL (R90, R92). -/
def busAccessOf (tx : Transaction) (s : State) : State :=
  match tx with
  | .read off n => busAccess false off.toNat n 0 s
  | .write off n wdata => busAccess true off.toNat n wdata s
  | .command v => busAccess true 0 8 v s

end Sys2Proof.Machine
end

