-- ==== Sys2Proof/Safety.lean ====
section
/-! DEFINITION. The terms in which claims about runs are stated: the invariant of the engine, what a host can see, and what the
sequencing of the engine depends on. -/

namespace Sys2Proof.Machine

/-- The invariant of the engine: idle, its round counter is 0 (R32); running, DONE is 0, W is the schedule of the block in
MSG, and the working variables are those of the first t rounds from the hash state in H (R31, R187, R188, R192). -/
def State.Inv (s : State) : Prop :=
  (s.busy = false → s.t = 0) ∧
  (s.busy = true → s.done = false ∧ s.W = schedule s.MSG ∧
    s.vars = rounds s.W (workingOf s.H) s.t.val (Nat.le_of_lt_succ s.t.isLt))

/-- Two states a host cannot tell apart: they differ at most in the hidden state a..h, W and t (R33). -/
def State.sameVisible (s₁ s₂ : State) : Prop :=
  s₁.H = s₂.H ∧ s₁.MSG = s₂.MSG ∧ s₁.busy = s₂.busy ∧ s₁.done = s₂.done ∧ s₁.errAcc = s₂.errAcc ∧
  s₁.errBusy = s₂.errBusy ∧ s₁.errCmd = s₂.errCmd ∧ s₁.rdata = s₂.rdata ∧ s₁.turns = s₂.turns

/-- Two states that differ at most in data words (H, MSG, a..h, W and what the host has read): their control state, the flags
and the round counter, is the same (R194). -/
def State.sameControl (s₁ s₂ : State) : Prop :=
  s₁.busy = s₂.busy ∧ s₁.done = s₂.done ∧ s₁.errAcc = s₂.errAcc ∧ s₁.errBusy = s₂.errBusy ∧
  s₁.errCmd = s₂.errCmd ∧ s₁.t = s₂.t ∧ s₁.turns = s₂.turns

/-- The error bits of a state, by their codes 2, 3 and 4 (R261). -/
def State.errorBits (s : State) : Bool × Bool × Bool := (s.errAcc, s.errBusy, s.errCmd)

/-- No reset is laid down among the next `n` turns. -/
def State.noResetWithin (n : Nat) (s : State) : Prop := Turn.reset ∉ s.turns.take n

/-- The next step is the engine's: its turn is the first, or no turn is left (log entry 1). -/
def State.engineIsNext (s : State) : Prop := s.turns = [] ∨ s.turns.head? = some .engine

/-- The turn is one at which the host writes the command `c` to CTRL (R92, R93). -/
def Turn.submits (c : Command) : Turn → Bool
  | .host tx =>
    match decode tx with
    | .ok i => i == .wr64Ctrl c.word || decodeCommand c.word == .ok i
    | .error _ => false
  | .engine => false
  | .reset => false

end Sys2Proof.Machine
end

