-- ==== Sys2Proof/Certificates/Slice0/Obligations.lean ====
section
/-! DEFINITION. The statements for the provers. Each docstring names the rules of spec/ the statement rests on. -/

open Sys2Proof Sys2Proof.Machine

/-! ### Encoding -/

/-- Decode and encode agree: every well-formed instruction, with every value of its operands, decodes from its own
transaction (R91 to R96). -/
def Obligations.DecodeOfEncodeIsTheInstruction : Prop :=
  ∀ i : Instr, i.wellFormed = true → decode (encode i) = .ok i

/-- The other direction: a transaction that decodes is the encoding of what it decodes to, which is well formed; so no two
transactions are one instruction and no bit of an accepted one is ignored (R91 to R96). -/
def Obligations.DecodedTransactionIsItsEncoding : Prop :=
  ∀ (tx : Transaction) (i : Instr), decode tx = .ok i → encode i = tx ∧ i.wellFormed = true

/-- Words written out from the spec's encodings decode to what they stand for: the codes, offsets and keys are those of R93,
R94 and R100. The frame of bits they are laid in is the MODEL'S CHOICE (log entry 3): a 64-bit word is a command word, any
other the key of R100 in its low bits, the data word of a write above it, which is 0 where the word has no bits for it. -/
def Obligations.SampleWordsDecode : Prop :=
  decodeTableWord 64 0x0000000000000002 = some .compress ∧
  decodeTableWord 64 0x0000000000000006 = some (.reservedCmd67 6) ∧
  decodeTableWord 64 0x0000000000000009 = some (.reservedCmd8F 9) ∧
  decodeTableWord 64 0x0000000000000010 = none ∧
  decodeTableWord 16 0b0_000001000_1000 = some .rd64Status ∧
  decodeTableWord 16 0b0_011111000_1000 = some (.rd64Msg 15) ∧
  decodeTableWord 16 0b1_100000000_1000 = some (.wr64H 0 0) ∧
  decodeTableWord 16 0b0_101000000_1000 = none

/-- The decoder and the opcode table's masks agree (R100): the rows of the table that apply to a BUS key are the one row of the
instruction decoded, or none when the transaction is refused; a size of 16 or more has no key and is refused; and the CMD rows
likewise. -/
def Obligations.DecoderAgreesWithOpcodeTable : Prop :=
  (∀ tx key, busKey tx = some key →
    (∀ i, decode tx = .ok i → (busRows.filter (·.applies key)).map BusRow.mnemonic = [i.mnemonic]) ∧
    (∀ e, decode tx = .error e → busRows.filter (·.applies key) = [])) ∧
  (∀ off n wdata, 16 ≤ n → decode (.read off n) = .error .badSize ∧ decode (.write off n wdata) = .error .badSize) ∧
  (∀ v i, decode (.command v) = .ok i → (cmdRows.filter (·.applies v)).map CmdRow.mnemonic = [i.mnemonic]) ∧
  (∀ v e, decode (.command v) = .error e → cmdRows.filter (·.applies v) = [])

/-! ### The step -/

/-- A step runs the decoded instruction: where the host's transaction is first, the step is the host's step of it, whether or
not it decodes, and where it decodes the step is exec of its instruction (R13, R210). That the turn is taken away is the
model's choice (log entry 1). -/
def Obligations.StepRunsTheDecodedInstruction : Prop :=
  ∀ (s : State) (tx : Transaction) (rest : List Turn), s.turns = .host tx :: rest →
    step s = hostStep tx { s with turns := rest } ∧
    ∀ i : Instr, decode tx = .ok i → step s = exec i { s with turns := rest }

/-- A transaction of a size other than 8 bytes, or at an offset that is no multiple of 8, is refused with ERR_ACC: nothing else
changes, and a read returns 0 (R63). -/
def Obligations.WrongSizeOrAlignmentIsRefused : Prop :=
  ∀ (s : State) (off : BitVec 9) (n : Nat) (wdata : Word), (n ≠ 8 ∨ off.toNat % 8 ≠ 0) →
    hostStep (.read off n) s = .next { s with errAcc := true, rdata := 0 } ∧
    hostStep (.write off n wdata) s = .next { s with errAcc := true }

/-- A transaction at an unmapped offset, 0x010..0x07F or 0x140..0x1FF, is refused with ERR_ACC: nothing else changes, and a
read returns 0 (R61, R64). -/
def Obligations.UnmappedOffsetIsRefused : Prop :=
  ∀ (s : State) (off : BitVec 9) (n : Nat) (wdata : Word),
    ((0x010 ≤ off.toNat ∧ off.toNat ≤ 0x07F) ∨ 0x140 ≤ off.toNat) →
    hostStep (.read off n) s = .next { s with errAcc := true, rdata := 0 } ∧
    hostStep (.write off n wdata) s = .next { s with errAcc := true }

/-- Every host transaction, in every state, does what the procedure BusAccess of R210 does: its checks in their order, its
busy gate and its effects. -/
def Obligations.HostStepIsBusAccess : Prop :=
  ∀ (tx : Transaction) (s : State), hostStep tx s = .next (busAccessOf tx s)

/-- A command word is the write of that word to CTRL (R90, R92): both give the same step. -/
def Obligations.CommandWordIsAWriteToCtrl : Prop :=
  ∀ (v : Word) (s : State), hostStep (.command v) s = hostStep (.write 0x000 8 v) s

/-- Every step, of the host, the engine or the reset event, in every state, answers a next state: no fault, no refusal (R195,
R210). -/
def Obligations.StepAlwaysAnswersNext : Prop :=
  ∀ s : State, ∃ u, step s = .next u

/-! ### The commands -/

/-- NOP (R221): no change, whether or not BUSY = 1. -/
def Obligations.NopChangesNothing : Prop :=
  encode .nop = .command 0x0000000000000000 ∧ ∀ s : State, exec .nop s = .next s

/-- INIT (R222, R185): idle, it loads the IV into H and clears DONE and changes nothing else; busy, it sets ERR_BUSY only; and
twice is once. -/
def Obligations.InitLoadsTheInitialHash : Prop :=
  encode .init = .command 0x0000000000000001 ∧
  (∀ s : State, s.busy = false →
    exec .init s = .next { s with
      H := #v[0x6A09E667F3BCC908, 0xBB67AE8584CAA73B, 0x3C6EF372FE94F82B, 0xA54FF53A5F1D36F1,
              0x510E527FADE682D1, 0x9B05688C2B3E6C1F, 0x1F83D9ABFB41BD6B, 0x5BE0CD19137E2179]
      done := false }) ∧
  (∀ s : State, s.busy = true → exec .init s = .next { s with errBusy := true }) ∧
  (∀ s u : State, s.busy = false → exec .init s = .next u → exec .init u = .next u)

/-- COMPRESS when BUSY = 0 performs START (R187): W is the block and its recurrence, a..h are H, t is 0, BUSY 1, DONE 0, and
nothing else changes. -/
def Obligations.CompressPerformsStart : Prop :=
  encode .compress = .command 0x0000000000000002 ∧
  ∀ s : State, s.busy = false → ∃ W : Vector Word 80,
    exec .compress s = .next { s with
      W := W
      vars := ⟨s.H[0], s.H[1], s.H[2], s.H[3], s.H[4], s.H[5], s.H[6], s.H[7]⟩
      t := 0
      busy := true
      done := false } ∧
    (∀ i : Fin 16, W[i.val] = s.MSG[i]) ∧
    (∀ t (ht : t < 80), 16 ≤ t →
      W[t] = smallSigma1 W[t - 2] + W[t - 7] + smallSigma0 W[t - 15] + W[t - 16])

/-- COMPRESS when BUSY = 1 is refused with ERR_BUSY; the running compression goes on and nothing is queued (R223). -/
def Obligations.CompressIsRefusedWhileBusy : Prop :=
  ∀ s : State, s.busy = true → exec .compress s = .next { s with errBusy := true }

/-- ZEROIZE (R224): idle, H, MSG, a..h, W and t become 0 and DONE 0, the error bits stay; busy, ERR_BUSY only. -/
def Obligations.ZeroizeClearsAllButTheErrorBits : Prop :=
  encode .zeroize = .command 0x0000000000000003 ∧
  (∀ s : State, s.busy = false →
    exec .zeroize s = .next { State.reset with
      errAcc := s.errAcc
      errBusy := s.errBusy
      errCmd := s.errCmd
      rdata := s.rdata
      turns := s.turns }) ∧
  (∀ s : State, s.busy = true → exec .zeroize s = .next { s with errBusy := true })

/-- CLEAR_STATUS (R225): the error bits and DONE become 0 and nothing else changes, whether or not BUSY = 1. -/
def Obligations.ClearStatusClearsErrorsAndDone : Prop :=
  encode .clearStatus = .command 0x0000000000000004 ∧
  ∀ s : State, exec .clearStatus s = .next { s with errAcc := false, errBusy := false, errCmd := false, done := false }

/-- An illegal command word, that is every word above 4, sets ERR_CMD and changes nothing else, whether or not BUSY = 1, in
each of its forms (R95, R226). -/
def Obligations.IllegalCommandSetsErrCmdOnly : Prop :=
  (∀ s : State, exec .reservedCmd5 s = .next { s with errCmd := true }) ∧
  (∀ (op : BitVec 4) (s : State), exec (.reservedCmd67 op) s = .next { s with errCmd := true }) ∧
  (∀ (op : BitVec 4) (s : State), exec (.reservedCmd8F op) s = .next { s with errCmd := true }) ∧
  (∀ (v : Word) (s : State), 4 < v.toNat →
    exec (.wr64Ctrl v) s = .next { s with errCmd := true } ∧
    hostStep (.command v) s = .next { s with errCmd := true })

/-- WR64 CTRL (R220): the five legal words do what their command does; INIT, COMPRESS and ZEROIZE are refused with ERR_BUSY
while BUSY = 1; every other word is refused with ERR_CMD, also while BUSY = 1. -/
def Obligations.WriteToCtrlPerformsTheCommand : Prop :=
  (∀ v : Word, encode (.wr64Ctrl v) = .write 0x000 8 v) ∧
  (∀ s : State, exec (.wr64Ctrl 0) s = .next s) ∧
  (∀ s : State, s.busy = false → exec (.wr64Ctrl 1) s = .next { s with H := initialHash, done := false }) ∧
  (∀ s : State, s.busy = false →
    exec (.wr64Ctrl 2) s =
      .next { s with W := schedule s.MSG, vars := workingOf s.H, t := 0, busy := true, done := false }) ∧
  (∀ s : State, s.busy = false →
    exec (.wr64Ctrl 3) s = .next { s with
      H := Vector.replicate 8 0
      MSG := Vector.replicate 16 0
      vars := ⟨0, 0, 0, 0, 0, 0, 0, 0⟩
      W := Vector.replicate 80 0
      t := 0
      done := false }) ∧
  (∀ s : State,
    exec (.wr64Ctrl 4) s = .next { s with errAcc := false, errBusy := false, errCmd := false, done := false }) ∧
  (∀ (v : Word) (s : State), s.busy = true → 1 ≤ v.toNat → v.toNat ≤ 3 →
    exec (.wr64Ctrl v) s = .next { s with errBusy := true }) ∧
  (∀ (v : Word) (s : State), 4 < v.toNat → exec (.wr64Ctrl v) s = .next { s with errCmd := true })

/-! ### Reads and writes -/

/-- RD64 CTRL (R213): the host gets 0 and nothing else changes, whether or not BUSY = 1. -/
def Obligations.ReadOfCtrlReturnsZero : Prop :=
  encode .rd64Ctrl = .read 0x000 8 ∧ ∀ s : State, exec .rd64Ctrl s = .next { s with rdata := 0 }

/-- RD64 STATUS (R214, R25): the host gets BUSY in bit 0, DONE in bit 1, ERR_ACC, ERR_BUSY and ERR_CMD in bits 2, 3 and 4 and
0 above, and nothing else changes, whether or not BUSY = 1. -/
def Obligations.ReadOfStatusReturnsTheFlags : Prop :=
  encode .rd64Status = .read 0x008 8 ∧
  ∀ s : State, exec .rd64Status s = .next { s with
    rdata := BitVec.ofNat 64 (s.busy.toNat + 2 * s.done.toNat + 4 * s.errAcc.toNat + 8 * s.errBusy.toNat
      + 16 * s.errCmd.toNat) }

/-- RD64 MSGi (R215): idle, the host gets MSG[i]; busy, it gets 0 and ERR_BUSY is set; nothing else changes. -/
def Obligations.ReadOfMsgReturnsTheRegister : Prop :=
  (∀ i : Fin 16, encode (.rd64Msg i) = .read (BitVec.ofNat 9 (0x080 + 8 * i.val)) 8) ∧
  (∀ (i : Fin 16) (s : State), s.busy = false → exec (.rd64Msg i) s = .next { s with rdata := s.MSG[i] }) ∧
  (∀ (i : Fin 16) (s : State), s.busy = true → exec (.rd64Msg i) s = .next { s with errBusy := true, rdata := 0 })

/-- RD64 Hj (R216): idle, the host gets H[j]; busy, it gets 0 and ERR_BUSY is set; nothing else changes. -/
def Obligations.ReadOfHReturnsTheRegister : Prop :=
  (∀ j : Fin 8, encode (.rd64H j) = .read (BitVec.ofNat 9 (0x100 + 8 * j.val)) 8) ∧
  (∀ (j : Fin 8) (s : State), s.busy = false → exec (.rd64H j) s = .next { s with rdata := s.H[j] }) ∧
  (∀ (j : Fin 8) (s : State), s.busy = true → exec (.rd64H j) s = .next { s with errBusy := true, rdata := 0 })

/-- WR64 MSGi (R217): idle, MSG[i] takes the word and nothing else changes; busy, ERR_BUSY only. -/
def Obligations.WriteOfMsgSetsTheRegister : Prop :=
  (∀ (i : Fin 16) (v : Word), encode (.wr64Msg i v) = .write (BitVec.ofNat 9 (0x080 + 8 * i.val)) 8 v) ∧
  (∀ (i : Fin 16) (v : Word) (s : State), s.busy = false →
    exec (.wr64Msg i v) s = .next { s with MSG := s.MSG.set i v }) ∧
  (∀ (i : Fin 16) (v : Word) (s : State), s.busy = true → exec (.wr64Msg i v) s = .next { s with errBusy := true })

/-- WR64 Hj (R218): idle, H[j] takes the word and nothing else changes; busy, ERR_BUSY only. -/
def Obligations.WriteOfHSetsTheRegister : Prop :=
  (∀ (j : Fin 8) (v : Word), encode (.wr64H j v) = .write (BitVec.ofNat 9 (0x100 + 8 * j.val)) 8 v) ∧
  (∀ (j : Fin 8) (v : Word) (s : State), s.busy = false →
    exec (.wr64H j v) s = .next { s with H := s.H.set j v }) ∧
  (∀ (j : Fin 8) (v : Word) (s : State), s.busy = true → exec (.wr64H j v) s = .next { s with errBusy := true })

/-- WR64 STATUS (R219): ERR_ACC is set and nothing else changes, whatever is written and whether or not BUSY = 1. -/
def Obligations.WriteToStatusSetsErrAccOnly : Prop :=
  ∀ v : Word, encode (.wr64Status v) = .write 0x008 8 v ∧
    ∀ s : State, exec (.wr64Status v) s = .next { s with errAcc := true }

/-- Through the window: an accepted write of MSG[i] or H[j] is read back at its own offset, and every other offset of the
window reads as before (R61, R66, R72, R212). -/
def Obligations.WriteChangesOnlyItsOwnOffset : Prop :=
  (∀ (i : Fin 16) (v : Word) (s u : State), s.busy = false → exec (.wr64Msg i v) s = .next u →
    window u (Reg.msg i).offset = some v ∧
    ∀ off : BitVec 9, off ≠ (Reg.msg i).offset → window u off = window s off) ∧
  (∀ (j : Fin 8) (v : Word) (s u : State), s.busy = false → exec (.wr64H j v) s = .next u →
    window u (Reg.h j).offset = some v ∧
    ∀ off : BitVec 9, off ≠ (Reg.h j).offset → window u off = window s off)

/-! ### Errors -/

/-- A refusal is precise and raises one error bit (R262, R263): where a transaction sets an error bit that was 0, it sets that
one, a refused read returns 0, and nothing else changes. -/
def Obligations.RefusalIsPreciseAndSetsOneBit : Prop :=
  ∀ (tx : Transaction) (s u : State), hostStep tx s = .next u →
    let rd := match tx with
      | .read _ _ => 0
      | .write _ _ _ => s.rdata
      | .command _ => s.rdata
    (s.errAcc = false → u.errAcc = true → u = { s with errAcc := true, rdata := rd }) ∧
    (s.errBusy = false → u.errBusy = true → s.busy = true ∧ u = { s with errBusy := true, rdata := rd }) ∧
    (s.errCmd = false → u.errCmd = true → u = { s with errCmd := true, rdata := rd })

/-- The error bits are sticky (R28): a step clears one only if it is a reset or CLEAR_STATUS, and sets any one of them, whatever
the others are, only if it is a host transaction. -/
def Obligations.ErrorBitsAreSticky : Prop :=
  ∀ s u : State, step s = .next u →
    (s.turns.head? ≠ some .reset → (∀ tn, s.turns.head? = some tn → tn.submits .clearStatus = false) →
      (s.errAcc = true → u.errAcc = true) ∧ (s.errBusy = true → u.errBusy = true) ∧
      (s.errCmd = true → u.errCmd = true)) ∧
    (s.errAcc = false → u.errAcc = true → ∃ tx, s.turns.head? = some (.host tx)) ∧
    (s.errBusy = false → u.errBusy = true → ∃ tx, s.turns.head? = some (.host tx)) ∧
    (s.errCmd = false → u.errCmd = true → ∃ tx, s.turns.head? = some (.host tx))

/-! ### The engine -/

/-- ROUND (R166, R188): with BUSY = 1 and t < 80 the engine's turn performs round t with K[t] and W[t], adds 1 to t, and changes
nothing else. -/
def Obligations.EngineTurnPerformsRound : Prop :=
  ∀ (s : State) (rest : List Turn) (ht : s.t.val < 80), s.busy = true → s.turns = .engine :: rest →
    let v := s.vars
    let T1 := v.h + bigSigma1 v.e + ch v.e v.f v.g + roundConstant ⟨s.t.val, ht⟩ + s.W[s.t.val]
    let T2 := bigSigma0 v.a + maj v.a v.b v.c
    step s = .next { s with
      vars := { a := T1 + T2, b := v.a, c := v.b, d := v.c, e := v.d + T1, f := v.e, g := v.f, h := v.g }
      t := ⟨s.t.val + 1, Nat.succ_lt_succ ht⟩
      turns := rest }

/-- FINISH (R189): with BUSY = 1 and t = 80 the engine's turn adds a..h into H, sets t and BUSY to 0 and DONE to 1, and changes
nothing else. -/
def Obligations.EngineTurnPerformsFinish : Prop :=
  ∀ (s : State) (rest : List Turn), s.busy = true → s.t = 80 → s.turns = .engine :: rest →
    step s = .next { s with
      H := #v[s.H[0] + s.vars.a, s.H[1] + s.vars.b, s.H[2] + s.vars.c, s.H[3] + s.vars.d,
              s.H[4] + s.vars.e, s.H[5] + s.vars.f, s.H[6] + s.vars.g, s.H[7] + s.vars.h]
      t := 0
      busy := false
      done := true
      turns := rest }

/-- No engine step is enabled when BUSY = 0 (R190): the engine's turn changes nothing. -/
def Obligations.EngineIsDisabledWhenIdle : Prop :=
  ∀ (s : State) (rest : List Turn), s.busy = false → s.turns = .engine :: rest →
    step s = .next { s with turns := rest }

/-- The engine's steps never write MSG, never set an error bit and return nothing to the host (R23, R28, R195). The step is the
engine's at its turn, and when no turn is left (the model's choice, log entry 1). -/
def Obligations.EngineTurnKeepsMsgAndErrorBits : Prop :=
  ∀ s u : State, s.engineIsNext → step s = .next u →
    u.MSG = s.MSG ∧ u.errorBits = s.errorBits ∧ u.rdata = s.rdata ∧ u.turns = s.turns.tail

/-- The round counter (R32, R34): a ROUND adds exactly 1 and FINISH sets t to 0; every other step that changes t sets it to 0
and is a reset, an accepted COMPRESS or an accepted ZEROIZE. So t never wraps. The step is the engine's at its turn, and when
no turn is left (the model's choice, log entry 1). -/
def Obligations.RoundCounterAdvancesByOne : Prop :=
  ∀ s u : State, step s = .next u →
    (s.engineIsNext → s.busy = true → s.t.val < 80 → u.t.val = s.t.val + 1) ∧
    (s.engineIsNext → s.busy = true → s.t = 80 → u.t = 0) ∧
    (u.t ≠ s.t → (s.engineIsNext ∧ s.busy = true) ∨
      (u.t = 0 ∧ ∃ tn, s.turns.head? = some tn ∧
        (tn = .reset ∨ (s.busy = false ∧ (tn.submits .compress = true ∨ tn.submits .zeroize = true)))))

/-- The constants are the bits R165 and R185 describe: K[t] is the first 64 bits of the fractional part of the cube root of the
t-th prime, IV[j] of the square root of the j-th prime (primes counted from 0). -/
def Obligations.ConstantsAreBitsOfRootsOfPrimes : Prop :=
  (∀ t : Fin 80, ∃ c : Nat,
    (c * 2 ^ 64 + (roundConstant t).toNat) ^ 3 ≤ Nat.nth Nat.Prime t.val * 2 ^ 192 ∧
    Nat.nth Nat.Prime t.val * 2 ^ 192 < (c * 2 ^ 64 + (roundConstant t).toNat + 1) ^ 3) ∧
  (∀ j : Fin 8, ∃ c : Nat,
    (c * 2 ^ 64 + initialHash[j].toNat) ^ 2 ≤ Nat.nth Nat.Prime j.val * 2 ^ 128 ∧
    Nat.nth Nat.Prime j.val * 2 ^ 128 < (c * 2 ^ 64 + initialHash[j].toNat + 1) ^ 2)

/-! ### BUSY and DONE -/

/-- BUSY rises exactly at an accepted COMPRESS and falls exactly at FINISH or a reset (R26). FINISH comes at the engine's turn,
and when no turn is left (the model's choice, log entry 1). -/
def Obligations.BusyChangesOnlyAtStartFinishReset : Prop :=
  ∀ s u : State, step s = .next u →
    (s.busy = false → (u.busy = true ↔ ∃ tn, s.turns.head? = some tn ∧ tn.submits .compress = true)) ∧
    (s.busy = true → (u.busy = false ↔
      s.turns.head? = some .reset ∨ (s.engineIsNext ∧ s.t = 80)))

/-- DONE is set exactly by FINISH, and cleared exactly by reset, CLEAR_STATUS, and INIT, COMPRESS and ZEROIZE where they are
accepted (R25, R27). FINISH comes at the engine's turn, and when no turn is left (the model's choice, log entry 1). -/
def Obligations.DoneChangesOnlyAsStated : Prop :=
  ∀ s u : State, step s = .next u →
    (s.done = false → (u.done = true ↔
      s.engineIsNext ∧ s.busy = true ∧ s.t = 80)) ∧
    (s.done = true → (u.done = false ↔ ∃ tn, s.turns.head? = some tn ∧
      (tn = .reset ∨ tn.submits .clearStatus = true ∨
        (s.busy = false ∧ (tn.submits .init = true ∨ tn.submits .compress = true ∨ tn.submits .zeroize = true)))))

/-- The writers of H and MSG (R21, R23): a step that changes H is FINISH, a reset, an accepted INIT, ZEROIZE or write of some
H[j]; one that changes MSG is a reset, an accepted ZEROIZE or write of some MSG[i]. FINISH comes at the engine's turn, and
when no turn is left (the model's choice, log entry 1). -/
def Obligations.OnlyTheirWritersChangeHAndMsg : Prop :=
  ∀ s u : State, step s = .next u →
    (u.H ≠ s.H →
      (s.engineIsNext ∧ s.busy = true ∧ s.t = 80) ∨
      ∃ tn, s.turns.head? = some tn ∧
        (tn = .reset ∨ (s.busy = false ∧ (tn.submits .init = true ∨ tn.submits .zeroize = true ∨
          ∃ (j : Fin 8) (v : Word), tn = .host (.write (Reg.h j).offset 8 v))))) ∧
    (u.MSG ≠ s.MSG →
      ∃ tn, s.turns.head? = some tn ∧
        (tn = .reset ∨ (s.busy = false ∧ (tn.submits .zeroize = true ∨
          ∃ (i : Fin 16) (v : Word), tn = .host (.write (Reg.msg i).offset 8 v)))))

/-- While BUSY = 1 no host transaction changes or reads H, MSG or the hidden state (R76, R192): what it reads is 0 or the
STATUS word. -/
def Obligations.HostSeesOnlyStatusWhileBusy : Prop :=
  ∀ (tx : Transaction) (s u : State), s.busy = true → hostStep tx s = .next u →
    u.H = s.H ∧ u.MSG = s.MSG ∧ u.vars = s.vars ∧ u.W = s.W ∧ u.t = s.t ∧ u.busy = true ∧
    (u.rdata = s.rdata ∨ u.rdata = 0 ∨ u.rdata = statusWord s)

/-! ### Reset -/

/-- The state after reset (R37): every element is 0, STATUS with it, and a read of CTRL returns 0. -/
def Obligations.ResetStateIsAllZero : Prop :=
  (∀ j : Fin 8, State.reset.H[j] = 0) ∧ (∀ i : Fin 16, State.reset.MSG[i] = 0) ∧
  State.reset.busy = false ∧ State.reset.done = false ∧ State.reset.errAcc = false ∧
  State.reset.errBusy = false ∧ State.reset.errCmd = false ∧
  State.reset.vars = ⟨0, 0, 0, 0, 0, 0, 0, 0⟩ ∧ (∀ t : Fin 80, State.reset.W[t] = 0) ∧ State.reset.t = 0 ∧
  statusWord State.reset = 0 ∧ exec .rd64Ctrl State.reset = .next { State.reset with rdata := 0 }

/-- The reset event (R280): in every state every element of the engine takes its reset value in one step, a running COMPRESS
included. That what the host has read and the turns to come survive it is the MODEL'S CHOICE (log entries 2 and 1): they are
the model's own fields, of which R280 says nothing. -/
def Obligations.ResetEventClearsTheEngine : Prop :=
  ∀ (s : State) (rest : List Turn), s.turns = .reset :: rest →
    step s = .next { State.reset with rdata := s.rdata, turns := rest }

/-! ### Word operations -/

/-- ROTR (R126): result bit i is bit (i + n) mod 64, rotations compose, and no bit is lost. -/
def Obligations.RotationMovesEveryBit : Prop :=
  (∀ (n : Nat) (x : Word) (i : Nat), 0 < n → n < 64 → i < 64 →
    (rotr n x).getLsbD i = x.getLsbD ((i + n) % 64)) ∧
  (∀ (n : Nat) (x : Word), 0 < n → n < 64 →
    rotr n x = shr n x ||| BitVec.ofNat 64 (x.toNat * 2 ^ (64 - n))) ∧
  (∀ (n m : Nat) (x : Word), 0 < n → n < 64 → 0 < m → m < 64 → rotr n (rotr m x) = rotr ((n + m) % 64) x) ∧
  (∀ n : Nat, 0 < n → n < 64 → rotr n 0 = 0 ∧ rotr n 0xFFFFFFFFFFFFFFFF = 0xFFFFFFFFFFFFFFFF)

/-- Ch and Maj, bit by bit (R127, R128): Ch takes y[i] where x[i] is 1 and z[i] where it is 0; Maj is 1 where at least two of
the three bits are 1. -/
def Obligations.ChAndMajBitByBit : Prop :=
  ∀ (x y z : Word) (i : Nat),
    (ch x y z).getLsbD i = (if x.getLsbD i then y.getLsbD i else z.getLsbD i) ∧
    (maj x y z).getLsbD i = decide (2 ≤ (x.getLsbD i).toNat + (y.getLsbD i).toNat + (z.getLsbD i).toNat)

/-- Σ0, Σ1, σ0 and σ1, bit by bit (R129 to R132): each result bit is the XOR of three bits of the operand, the shifted term of
σ0 and σ1 bringing in zeros. -/
def Obligations.SigmaFunctionsBitByBit : Prop :=
  ∀ (x : Word) (i : Nat), i < 64 →
    (bigSigma0 x).getLsbD i =
      ((x.getLsbD ((i + 28) % 64) ^^ x.getLsbD ((i + 34) % 64)) ^^ x.getLsbD ((i + 39) % 64)) ∧
    (bigSigma1 x).getLsbD i =
      ((x.getLsbD ((i + 14) % 64) ^^ x.getLsbD ((i + 18) % 64)) ^^ x.getLsbD ((i + 41) % 64)) ∧
    (smallSigma0 x).getLsbD i =
      ((x.getLsbD ((i + 1) % 64) ^^ x.getLsbD ((i + 8) % 64)) ^^ (decide (i + 7 < 64) && x.getLsbD (i + 7))) ∧
    (smallSigma1 x).getLsbD i =
      ((x.getLsbD ((i + 19) % 64) ^^ x.getLsbD ((i + 61) % 64)) ^^ (decide (i + 6 < 64) && x.getLsbD (i + 6)))

/-! ### The schedule and the rounds -/

/-- The schedule (R150, R151): the block, then the recurrence; and a block of zeros gives zeros. -/
def Obligations.ScheduleFollowsTheRecurrence : Prop :=
  (∀ (M : Vector Word 16) (t : Fin 16), (schedule M)[t.val] = M[t]) ∧
  (∀ (M : Vector Word 16) (t : Nat) (ht : t < 80), 16 ≤ t →
    (schedule M)[t] = smallSigma1 (schedule M)[t - 2] + (schedule M)[t - 7]
      + smallSigma0 (schedule M)[t - 15] + (schedule M)[t - 16]) ∧
  (∀ t : Fin 80, (schedule (Vector.replicate 16 0))[t] = 0)

/-- Each round is a bijection of the eight words with the inverse R169 gives, and the 80 rounds are a permutation of the
2^512 states (R169). -/
def Obligations.RoundsArePermutations : Prop :=
  (∀ (k w : Word) (v : Working), inverseRound k w (round k w v) = v ∧ round k w (inverseRound k w v) = v) ∧
  (∀ W : Vector Word 80, Function.Bijective (permutation W))

/-! ### The headline results -/

/-- The invariant holds at reset (R32, R37). -/
def Obligations.ResetMeetsTheEngineInvariant : Prop :=
  State.reset.Inv

/-- Every step of every agent, in every state, keeps the invariant (R31, R32, R187 to R189, R192). -/
def Obligations.StepKeepsTheEngineInvariant : Prop :=
  ∀ s u : State, s.Inv → step s = .next u → u.Inv

/-- Correctness of a COMPRESS under every interleaving (R193): if it is accepted, and no reset is among the turns up to the step
at which BUSY falls, then whatever the turns of host and engine are, that step leaves H = Compress(H, MSG) of the start, MSG
as it was, BUSY = 0 and DONE = 1. A reset may come after it. The interleaving is given as the turns of log entry 1. -/
def Obligations.CompressionIsCorrectUnderEveryInterleaving : Prop :=
  ∀ (s s₁ u v : State) (k : Nat), s.busy = false → exec .compress s = .next s₁ → s₁.noResetWithin (k + 1) →
    core.run k s₁ = .next u →
    (∀ j w, j ≤ k → core.run j s₁ = .next w → w.busy = true) →
    step u = .next v → v.busy = false →
    v.H = compress s.H s.MSG ∧ v.MSG = s.MSG ∧ v.busy = false ∧ v.done = true

/-- COMPRESS from any idle state runs to its end by itself (R186 to R189): the write and the engine's 81 steps leave
H = Compress(H, MSG), t = 0, BUSY = 0 and DONE = 1, with the last values of a..h and W, and nothing else changed. That the
engine takes its steps when no turn is left is the MODEL'S CHOICE (log entry 1), which stands for the fairness of R191. -/
def Obligations.CompressRunsToItsResultIn81EngineSteps : Prop :=
  ∀ s : State, s.busy = false → s.turns = [.host (.write 0x000 8 0x2)] →
    core.run 82 s = .next { s with
      H := compress s.H s.MSG
      W := schedule s.MSG
      vars := permutation (schedule s.MSG) (workingOf s.H)
      t := 0
      busy := false
      done := true
      turns := [] }

/-- Polling ends (R191): a running engine that gets its turns between the host's reads of STATUS, however they interleave, is
idle at the end, and the last read returns BUSY = 0. -/
def Obligations.PollingReadsBusyZeroInTheEnd : Prop :=
  ∀ (s : State) (l : List Turn), s.busy = true →
    (∀ x ∈ l, x = .engine ∨ x = .host (.read 0x008 8)) →
    81 ≤ l.count .engine + s.t.val →
    s.turns = l ++ [.host (.read 0x008 8)] →
    ∃ u, core.run (l.length + 1) s = .next u ∧ u.busy = false ∧ u.rdata.getLsbD 0 = false

/-- The hidden state is invisible (R33): two states that differ only in a..h, W and t answer every transaction alike and stay
so alike. -/
def Obligations.HiddenStateIsInvisibleToTheHost : Prop :=
  ∀ (tx : Transaction) (s₁ s₂ u₁ u₂ : State), s₁.sameVisible s₂ →
    hostStep tx s₁ = .next u₁ → hostStep tx s₂ = .next u₂ → u₁.sameVisible u₂

/-- No data-dependent control (R194): whatever the words in H, MSG, a..h and W, two states with the same flags, round counter
and turns step to states with the same flags, round counter and turns. -/
def Obligations.ControlDependsOnNoDataWord : Prop :=
  ∀ s₁ s₂ u₁ u₂ : State, s₁.sameControl s₂ → step s₁ = .next u₁ → step s₂ = .next u₂ → u₁.sameControl u₂

/-! ### The host procedures -/

/-- The padded length (R243): 128 bytes for each of the N blocks, N at least 1, and the boundary cases. -/
def Obligations.PaddedLengthIsWholeBlocks : Prop :=
  (∀ m : List Byte, (pad m).length = m.length + 1 + padZeros m.length + 16 ∧
    (pad m).length = 128 * ((m.length + 16) / 128 + 1) ∧ blockCount m.length = (m.length + 16) / 128 + 1 ∧
    1 ≤ blockCount m.length) ∧
  (blockCount 0 = 1 ∧ blockCount 111 = 1 ∧ padZeros 111 = 0 ∧ blockCount 112 = 2 ∧ padZeros 112 = 127 ∧
    blockCount 113 = 2 ∧ padZeros 113 = 126 ∧ blockCount 127 = 2 ∧ padZeros 127 = 112 ∧
    blockCount 128 = 2 ∧ padZeros 128 = 111)

/-- The length field lands in MSG[14] and MSG[15] of the last block (R69): bits 127:64 and 63:0 of the bit length. -/
def Obligations.LengthFieldLandsInTheLastTwoWords : Prop :=
  ∀ m : List Byte, inDomain m = true →
    packWord (blockAt (pad m) (blockCount m.length - 1)) 14 = BitVec.ofNat 64 (8 * m.length / 2 ^ 64) ∧
    packWord (blockAt (pad m) (blockCount m.length - 1)) 15 = BitVec.ofNat 64 (8 * m.length)

/-- Word packing is big-endian (R67, R245): byte k of the word for MSG[i], most significant first, is byte 8i + k of the
block. -/
def Obligations.PackedWordIsBigEndian : Prop :=
  ∀ (B : List Byte) (i k : Nat), i < 16 → k < 8 → B.length = 128 →
    some ((packWord B i).extractLsb' (56 - 8 * k) 8) = B[8 * i + k]?

/-- Serialise (R68, R247): every message of the domain has a digest of 64 bytes, D[8j+k] being byte k of H[j], most significant
first. -/
def Obligations.SerialisedDigestIsBigEndian : Prop :=
  (∀ m : List Byte, inDomain m = true → ∃ D, digest m = some D ∧ D = serialise (digestState m) ∧ D.length = 64) ∧
  ∀ (H : Vector Word 8) (j : Fin 8) (k : Nat), k < 8 →
    (serialise H)[8 * j.val + k]? = some (H[j].extractLsb' (56 - 8 * k) 8)

/-! ### The platform -/

/-- Instances share no state (R270): a step of instance k is its own step, and every other instance is as before. -/
def Obligations.InstancesAreIndependent : Prop :=
  ∀ (p q : Platform) (k : Nat), p.stepAt k = .next q →
    (∀ j, j ≠ k → q.engines[j]? = p.engines[j]?) ∧
    (∀ s, p.engines[k]? = some s → ∃ u, step s = .next u ∧ q.engines[k]? = some u)

/-- The model's windows (R60, R270; the numbering by rising address is the model's choice, log entry 4): each BASE is 512-byte
aligned, an address lies in at most one window, and an address in the window of instance k reaches that instance at its byte
offset. -/
def Obligations.AddressesReachTheirOwnInstance : Prop :=
  (∀ k, baseAddress k % 512 = 0) ∧
  (∀ j k addr, j ≠ k → inWindow j addr = true → inWindow k addr = false) ∧
  (∀ (p : Platform) (k : Nat) (off : BitVec 9), k < p.engines.length →
    p.locate (baseAddress k + off.toNat) = some (k, off))

/-! ### The domain of the host procedure -/

/-- The digest procedure is defined for messages of at most 2^125 - 1 bits, the empty one among them, and refuses a longer
one: it has no digest (R241, 93_implementation_defined.md I16). -/
def Obligations.DigestIsDefinedExactlyOnItsDomain : Prop :=
  ∀ m : List Byte, (∃ D, digest m = some D) ↔ 8 * m.length ≤ 2 ^ 125 - 1
end

