-- ==== Sys2Proof/Machine/HostProgram.lean ====
section
/-! DEFINITION. The spec's assembly for hosts (30_encoding.md R98, R99), its expansion into transactions, and the digest
procedure written in it (R246, R248). The host's own state is no state of the engine (R20): a host program is run here over
the machine's step, with the engine's turns between its transactions given as numbers. -/

namespace Sys2Proof.Machine

/-- A line of the host assembly: the four forms of R98 and the pseudo-instructions of R99. -/
inductive AsmLine where
  | rd (r : Reg)
  | wr (r : Reg) (imm : Word)
  | rdAt (n : Nat) (off : BitVec 9)
  | wrAt (n : Nat) (off : BitVec 9) (imm : Word)
  | nop
  | init
  | compress
  | zeroize
  | clrstat
  | wait
  | ldblk (block : Vector Word 16)
  | rdhash
deriving DecidableEq, Repr

/-- What a line makes the host do: one transaction, or poll STATUS until BUSY = 0 (`wait`, a loop of the host's, R99). -/
inductive HostAction where
  | transact (tx : Transaction)
  | wait
deriving DecidableEq, Repr

/-- `rd REG` as a transaction (R98). -/
def readOf (r : Reg) : Transaction := .read r.offset 8

/-- `wr REG, imm64` as a transaction (R98). -/
def writeOf (r : Reg) (imm : Word) : Transaction := .write r.offset 8 imm

/-- The expansion of a line (R98, R99). -/
def AsmLine.expand : AsmLine → List HostAction
  | .rd r => [.transact (readOf r)]
  | .wr r imm => [.transact (writeOf r imm)]
  | .rdAt n off => [.transact (.read off n)]
  | .wrAt n off imm => [.transact (.write off n imm)]
  | .nop => [.transact (writeOf .ctrl 0x0)]
  | .init => [.transact (writeOf .ctrl 0x1)]
  | .compress => [.transact (writeOf .ctrl 0x2)]
  | .zeroize => [.transact (writeOf .ctrl 0x3)]
  | .clrstat => [.transact (writeOf .ctrl 0x4)]
  | .wait => [.wait]
  | .ldblk block => (List.finRange 16).map fun i => .transact (writeOf (.msg i) block[i])
  | .rdhash => (List.finRange 8).map fun j => .transact (readOf (.h j))

/-- The lines of the digest procedure (R246) for given blocks of a padded message. -/
def digestLines (blocks : List (Vector Word 16)) : List AsmLine :=
  [.clrstat, .init]
    ++ blocks.flatMap (fun block => [.ldblk block, .compress, .wait])
    ++ [.rd .status, .rdhash, .zeroize]

/-- The digest procedure Digest(m) (R246). For a message outside the domain of R241 there is none: it is refused at host
level, and the engine gets no transaction (93_implementation_defined.md I16). -/
def digestProgram (m : List Byte) : Option (List AsmLine) :=
  if inDomain m then some (digestLines (messageBlocks m)) else none

/-- `n` turns of the engine one after another. -/
def engineTurns : Nat → State → State
  | 0, s => s
  | n + 1, s => engineTurns n (engineStep s)

/-- One host transaction, taken as the machine's next step. -/
def transact (tx : Transaction) (s : State) : State :=
  match step { s with turns := [.host tx] } with
  | .next s' => s'
  | .fault _ => s
  | .refused _ => s

/-- Whether a transaction is a read, so that it gives the host a word. -/
def isRead : Transaction → Bool
  | .read _ _ => true
  | .write _ _ _ => false
  | .command _ => false

/-- A run of a host program. Each transaction of the host takes the next number of the list, and the engine has that many
turns before it (R76); a `wait` reads STATUS until bit 0 reads 0 (R99). The result is the last state with the words the
reads outside `wait` returned, in order; none when the list ends before the program does. -/
def runHost : List Nat → List HostAction → State → List Word → Option (State × List Word)
  | _, [], s, got => some (s, got)
  | [], _ :: _, _, _ => none
  | n :: ns, .transact tx :: rest, s, got =>
    let s' := transact tx (engineTurns n s)
    runHost ns rest s' (if isRead tx then got ++ [s'.rdata] else got)
  | n :: ns, .wait :: rest, s, got =>
    let s' := transact (readOf .status) (engineTurns n s)
    if s'.rdata.getLsbD 0 then runHost ns (.wait :: rest) s' got else runHost ns rest s' got

/-- A run of a program in the host assembly. -/
def runProgram (ns : List Nat) (program : List AsmLine) (s : State) : Option (State × List Word) :=
  runHost ns (program.flatMap AsmLine.expand) s []

/-- The digest the host makes of the words a run of the digest procedure read, STATUS and H0..H7. The procedure is valid only
if STATUS is 0x2, and otherwise the host returns no digest (R248). -/
def digestOfReads : List Word → Option (List Byte)
  | [status, h0, h1, h2, h3, h4, h5, h6, h7] =>
    if status = 2 then some (serialise #v[h0, h1, h2, h3, h4, h5, h6, h7]) else none
  | _ => none

/-- The digest a run of the digest procedure returns; none for a message the procedure is not defined for (R241). -/
def digestRun (ns : List Nat) (m : List Byte) (s : State) : Option (List Byte) :=
  match digestProgram m with
  | none => none
  | some lines =>
    match runProgram ns lines s with
    | none => none
    | some (_, got) => digestOfReads got

end Sys2Proof.Machine
end

