-- ==== Sys2Proof/Laws/HostProcedures.lean ====
section
/-! SUPPORT. The domain of the host procedures (R241): what each of them answers inside it and outside it. -/

namespace Sys2Proof.Machine

theorem inDomain_iff (m : List Byte) : inDomain m = true ↔ 8 * m.length ≤ 2 ^ 125 - 1 := by
  simp [inDomain]

theorem digest_inDomain {m : List Byte} (h : inDomain m = true) : digest m = some (serialise (digestState m)) := by
  simp [digest, h]

theorem digest_refused {m : List Byte} (h : inDomain m = false) : digest m = none := by
  simp [digest, h]

theorem digestProgram_inDomain {m : List Byte} (h : inDomain m = true) :
    digestProgram m = some (digestLines (messageBlocks m)) := by
  simp [digestProgram, h]

theorem digestProgram_refused {m : List Byte} (h : inDomain m = false) : digestProgram m = none := by
  simp [digestProgram, h]

/-- Whatever the interleaving and the engine's state, a message outside the domain gets no digest. -/
theorem digestRun_refused {m : List Byte} (h : inDomain m = false) (ns : List Nat) (s : State) : digestRun ns m s = none := by
  simp [digestRun, digestProgram_refused h]

end Sys2Proof.Machine
end

