-- ==== Sys2Proof/Laws/State.lean ====
section
/-! SUPPORT. One lemma per field of State for each named update, true by rfl and tagged for simp, so that no proof unfolds a
record update. -/

namespace Sys2Proof.Machine

@[simp] theorem refuse_acc_H (s : State) : (refuse .acc s).H = s.H := rfl
@[simp] theorem refuse_acc_MSG (s : State) : (refuse .acc s).MSG = s.MSG := rfl
@[simp] theorem refuse_acc_busy (s : State) : (refuse .acc s).busy = s.busy := rfl
@[simp] theorem refuse_acc_done (s : State) : (refuse .acc s).done = s.done := rfl
@[simp] theorem refuse_acc_errAcc (s : State) : (refuse .acc s).errAcc = true := rfl
@[simp] theorem refuse_acc_errBusy (s : State) : (refuse .acc s).errBusy = s.errBusy := rfl
@[simp] theorem refuse_acc_errCmd (s : State) : (refuse .acc s).errCmd = s.errCmd := rfl
@[simp] theorem refuse_acc_vars (s : State) : (refuse .acc s).vars = s.vars := rfl
@[simp] theorem refuse_acc_W (s : State) : (refuse .acc s).W = s.W := rfl
@[simp] theorem refuse_acc_t (s : State) : (refuse .acc s).t = s.t := rfl
@[simp] theorem refuse_acc_rdata (s : State) : (refuse .acc s).rdata = s.rdata := rfl
@[simp] theorem refuse_acc_turns (s : State) : (refuse .acc s).turns = s.turns := rfl

@[simp] theorem refuse_busy_H (s : State) : (refuse .busy s).H = s.H := rfl
@[simp] theorem refuse_busy_MSG (s : State) : (refuse .busy s).MSG = s.MSG := rfl
@[simp] theorem refuse_busy_busy (s : State) : (refuse .busy s).busy = s.busy := rfl
@[simp] theorem refuse_busy_done (s : State) : (refuse .busy s).done = s.done := rfl
@[simp] theorem refuse_busy_errAcc (s : State) : (refuse .busy s).errAcc = s.errAcc := rfl
@[simp] theorem refuse_busy_errBusy (s : State) : (refuse .busy s).errBusy = true := rfl
@[simp] theorem refuse_busy_errCmd (s : State) : (refuse .busy s).errCmd = s.errCmd := rfl
@[simp] theorem refuse_busy_vars (s : State) : (refuse .busy s).vars = s.vars := rfl
@[simp] theorem refuse_busy_W (s : State) : (refuse .busy s).W = s.W := rfl
@[simp] theorem refuse_busy_t (s : State) : (refuse .busy s).t = s.t := rfl
@[simp] theorem refuse_busy_rdata (s : State) : (refuse .busy s).rdata = s.rdata := rfl
@[simp] theorem refuse_busy_turns (s : State) : (refuse .busy s).turns = s.turns := rfl

@[simp] theorem refuse_cmd_H (s : State) : (refuse .cmd s).H = s.H := rfl
@[simp] theorem refuse_cmd_MSG (s : State) : (refuse .cmd s).MSG = s.MSG := rfl
@[simp] theorem refuse_cmd_busy (s : State) : (refuse .cmd s).busy = s.busy := rfl
@[simp] theorem refuse_cmd_done (s : State) : (refuse .cmd s).done = s.done := rfl
@[simp] theorem refuse_cmd_errAcc (s : State) : (refuse .cmd s).errAcc = s.errAcc := rfl
@[simp] theorem refuse_cmd_errBusy (s : State) : (refuse .cmd s).errBusy = s.errBusy := rfl
@[simp] theorem refuse_cmd_errCmd (s : State) : (refuse .cmd s).errCmd = true := rfl
@[simp] theorem refuse_cmd_vars (s : State) : (refuse .cmd s).vars = s.vars := rfl
@[simp] theorem refuse_cmd_W (s : State) : (refuse .cmd s).W = s.W := rfl
@[simp] theorem refuse_cmd_t (s : State) : (refuse .cmd s).t = s.t := rfl
@[simp] theorem refuse_cmd_rdata (s : State) : (refuse .cmd s).rdata = s.rdata := rfl
@[simp] theorem refuse_cmd_turns (s : State) : (refuse .cmd s).turns = s.turns := rfl

@[simp] theorem refuseRead_acc_H (s : State) : (refuseRead .acc s).H = s.H := rfl
@[simp] theorem refuseRead_acc_MSG (s : State) : (refuseRead .acc s).MSG = s.MSG := rfl
@[simp] theorem refuseRead_acc_busy (s : State) : (refuseRead .acc s).busy = s.busy := rfl
@[simp] theorem refuseRead_acc_done (s : State) : (refuseRead .acc s).done = s.done := rfl
@[simp] theorem refuseRead_acc_errAcc (s : State) : (refuseRead .acc s).errAcc = true := rfl
@[simp] theorem refuseRead_acc_errBusy (s : State) : (refuseRead .acc s).errBusy = s.errBusy := rfl
@[simp] theorem refuseRead_acc_errCmd (s : State) : (refuseRead .acc s).errCmd = s.errCmd := rfl
@[simp] theorem refuseRead_acc_vars (s : State) : (refuseRead .acc s).vars = s.vars := rfl
@[simp] theorem refuseRead_acc_W (s : State) : (refuseRead .acc s).W = s.W := rfl
@[simp] theorem refuseRead_acc_t (s : State) : (refuseRead .acc s).t = s.t := rfl
@[simp] theorem refuseRead_acc_rdata (s : State) : (refuseRead .acc s).rdata = 0 := rfl
@[simp] theorem refuseRead_acc_turns (s : State) : (refuseRead .acc s).turns = s.turns := rfl

@[simp] theorem refuseRead_busy_H (s : State) : (refuseRead .busy s).H = s.H := rfl
@[simp] theorem refuseRead_busy_MSG (s : State) : (refuseRead .busy s).MSG = s.MSG := rfl
@[simp] theorem refuseRead_busy_busy (s : State) : (refuseRead .busy s).busy = s.busy := rfl
@[simp] theorem refuseRead_busy_done (s : State) : (refuseRead .busy s).done = s.done := rfl
@[simp] theorem refuseRead_busy_errAcc (s : State) : (refuseRead .busy s).errAcc = s.errAcc := rfl
@[simp] theorem refuseRead_busy_errBusy (s : State) : (refuseRead .busy s).errBusy = true := rfl
@[simp] theorem refuseRead_busy_errCmd (s : State) : (refuseRead .busy s).errCmd = s.errCmd := rfl
@[simp] theorem refuseRead_busy_vars (s : State) : (refuseRead .busy s).vars = s.vars := rfl
@[simp] theorem refuseRead_busy_W (s : State) : (refuseRead .busy s).W = s.W := rfl
@[simp] theorem refuseRead_busy_t (s : State) : (refuseRead .busy s).t = s.t := rfl
@[simp] theorem refuseRead_busy_rdata (s : State) : (refuseRead .busy s).rdata = 0 := rfl
@[simp] theorem refuseRead_busy_turns (s : State) : (refuseRead .busy s).turns = s.turns := rfl

@[simp] theorem answer_H (v : Word) (s : State) : (answer v s).H = s.H := rfl
@[simp] theorem answer_MSG (v : Word) (s : State) : (answer v s).MSG = s.MSG := rfl
@[simp] theorem answer_busy (v : Word) (s : State) : (answer v s).busy = s.busy := rfl
@[simp] theorem answer_done (v : Word) (s : State) : (answer v s).done = s.done := rfl
@[simp] theorem answer_errAcc (v : Word) (s : State) : (answer v s).errAcc = s.errAcc := rfl
@[simp] theorem answer_errBusy (v : Word) (s : State) : (answer v s).errBusy = s.errBusy := rfl
@[simp] theorem answer_errCmd (v : Word) (s : State) : (answer v s).errCmd = s.errCmd := rfl
@[simp] theorem answer_vars (v : Word) (s : State) : (answer v s).vars = s.vars := rfl
@[simp] theorem answer_W (v : Word) (s : State) : (answer v s).W = s.W := rfl
@[simp] theorem answer_t (v : Word) (s : State) : (answer v s).t = s.t := rfl
@[simp] theorem answer_rdata (v : Word) (s : State) : (answer v s).rdata = v := rfl
@[simp] theorem answer_turns (v : Word) (s : State) : (answer v s).turns = s.turns := rfl

@[simp] theorem setMsg_H (i : Fin 16) (v : Word) (s : State) : (setMsg i v s).H = s.H := rfl
@[simp] theorem setMsg_MSG (i : Fin 16) (v : Word) (s : State) : (setMsg i v s).MSG = s.MSG.set i v := rfl
@[simp] theorem setMsg_busy (i : Fin 16) (v : Word) (s : State) : (setMsg i v s).busy = s.busy := rfl
@[simp] theorem setMsg_done (i : Fin 16) (v : Word) (s : State) : (setMsg i v s).done = s.done := rfl
@[simp] theorem setMsg_errAcc (i : Fin 16) (v : Word) (s : State) : (setMsg i v s).errAcc = s.errAcc := rfl
@[simp] theorem setMsg_errBusy (i : Fin 16) (v : Word) (s : State) : (setMsg i v s).errBusy = s.errBusy := rfl
@[simp] theorem setMsg_errCmd (i : Fin 16) (v : Word) (s : State) : (setMsg i v s).errCmd = s.errCmd := rfl
@[simp] theorem setMsg_vars (i : Fin 16) (v : Word) (s : State) : (setMsg i v s).vars = s.vars := rfl
@[simp] theorem setMsg_W (i : Fin 16) (v : Word) (s : State) : (setMsg i v s).W = s.W := rfl
@[simp] theorem setMsg_t (i : Fin 16) (v : Word) (s : State) : (setMsg i v s).t = s.t := rfl
@[simp] theorem setMsg_rdata (i : Fin 16) (v : Word) (s : State) : (setMsg i v s).rdata = s.rdata := rfl
@[simp] theorem setMsg_turns (i : Fin 16) (v : Word) (s : State) : (setMsg i v s).turns = s.turns := rfl

@[simp] theorem setH_H (j : Fin 8) (v : Word) (s : State) : (setH j v s).H = s.H.set j v := rfl
@[simp] theorem setH_MSG (j : Fin 8) (v : Word) (s : State) : (setH j v s).MSG = s.MSG := rfl
@[simp] theorem setH_busy (j : Fin 8) (v : Word) (s : State) : (setH j v s).busy = s.busy := rfl
@[simp] theorem setH_done (j : Fin 8) (v : Word) (s : State) : (setH j v s).done = s.done := rfl
@[simp] theorem setH_errAcc (j : Fin 8) (v : Word) (s : State) : (setH j v s).errAcc = s.errAcc := rfl
@[simp] theorem setH_errBusy (j : Fin 8) (v : Word) (s : State) : (setH j v s).errBusy = s.errBusy := rfl
@[simp] theorem setH_errCmd (j : Fin 8) (v : Word) (s : State) : (setH j v s).errCmd = s.errCmd := rfl
@[simp] theorem setH_vars (j : Fin 8) (v : Word) (s : State) : (setH j v s).vars = s.vars := rfl
@[simp] theorem setH_W (j : Fin 8) (v : Word) (s : State) : (setH j v s).W = s.W := rfl
@[simp] theorem setH_t (j : Fin 8) (v : Word) (s : State) : (setH j v s).t = s.t := rfl
@[simp] theorem setH_rdata (j : Fin 8) (v : Word) (s : State) : (setH j v s).rdata = s.rdata := rfl
@[simp] theorem setH_turns (j : Fin 8) (v : Word) (s : State) : (setH j v s).turns = s.turns := rfl

@[simp] theorem resetEvent_H (s : State) : (resetEvent s).H = State.reset.H := rfl
@[simp] theorem resetEvent_MSG (s : State) : (resetEvent s).MSG = State.reset.MSG := rfl
@[simp] theorem resetEvent_busy (s : State) : (resetEvent s).busy = State.reset.busy := rfl
@[simp] theorem resetEvent_done (s : State) : (resetEvent s).done = State.reset.done := rfl
@[simp] theorem resetEvent_errAcc (s : State) : (resetEvent s).errAcc = State.reset.errAcc := rfl
@[simp] theorem resetEvent_errBusy (s : State) : (resetEvent s).errBusy = State.reset.errBusy := rfl
@[simp] theorem resetEvent_errCmd (s : State) : (resetEvent s).errCmd = State.reset.errCmd := rfl
@[simp] theorem resetEvent_vars (s : State) : (resetEvent s).vars = State.reset.vars := rfl
@[simp] theorem resetEvent_W (s : State) : (resetEvent s).W = State.reset.W := rfl
@[simp] theorem resetEvent_t (s : State) : (resetEvent s).t = State.reset.t := rfl
@[simp] theorem resetEvent_rdata (s : State) : (resetEvent s).rdata = s.rdata := rfl
@[simp] theorem resetEvent_turns (s : State) : (resetEvent s).turns = s.turns := rfl

@[simp] theorem loadInitialHash_H (s : State) : (loadInitialHash s).H = initialHash := rfl
@[simp] theorem loadInitialHash_MSG (s : State) : (loadInitialHash s).MSG = s.MSG := rfl
@[simp] theorem loadInitialHash_busy (s : State) : (loadInitialHash s).busy = s.busy := rfl
@[simp] theorem loadInitialHash_done (s : State) : (loadInitialHash s).done = false := rfl
@[simp] theorem loadInitialHash_errAcc (s : State) : (loadInitialHash s).errAcc = s.errAcc := rfl
@[simp] theorem loadInitialHash_errBusy (s : State) : (loadInitialHash s).errBusy = s.errBusy := rfl
@[simp] theorem loadInitialHash_errCmd (s : State) : (loadInitialHash s).errCmd = s.errCmd := rfl
@[simp] theorem loadInitialHash_vars (s : State) : (loadInitialHash s).vars = s.vars := rfl
@[simp] theorem loadInitialHash_W (s : State) : (loadInitialHash s).W = s.W := rfl
@[simp] theorem loadInitialHash_t (s : State) : (loadInitialHash s).t = s.t := rfl
@[simp] theorem loadInitialHash_rdata (s : State) : (loadInitialHash s).rdata = s.rdata := rfl
@[simp] theorem loadInitialHash_turns (s : State) : (loadInitialHash s).turns = s.turns := rfl

@[simp] theorem zeroizeState_H (s : State) : (zeroizeState s).H = Vector.replicate 8 0 := rfl
@[simp] theorem zeroizeState_MSG (s : State) : (zeroizeState s).MSG = Vector.replicate 16 0 := rfl
@[simp] theorem zeroizeState_busy (s : State) : (zeroizeState s).busy = s.busy := rfl
@[simp] theorem zeroizeState_done (s : State) : (zeroizeState s).done = false := rfl
@[simp] theorem zeroizeState_errAcc (s : State) : (zeroizeState s).errAcc = s.errAcc := rfl
@[simp] theorem zeroizeState_errBusy (s : State) : (zeroizeState s).errBusy = s.errBusy := rfl
@[simp] theorem zeroizeState_errCmd (s : State) : (zeroizeState s).errCmd = s.errCmd := rfl
@[simp] theorem zeroizeState_vars (s : State) : (zeroizeState s).vars = ⟨0, 0, 0, 0, 0, 0, 0, 0⟩ := rfl
@[simp] theorem zeroizeState_W (s : State) : (zeroizeState s).W = Vector.replicate 80 0 := rfl
@[simp] theorem zeroizeState_t (s : State) : (zeroizeState s).t = 0 := rfl
@[simp] theorem zeroizeState_rdata (s : State) : (zeroizeState s).rdata = s.rdata := rfl
@[simp] theorem zeroizeState_turns (s : State) : (zeroizeState s).turns = s.turns := rfl

@[simp] theorem clearStatusBits_H (s : State) : (clearStatusBits s).H = s.H := rfl
@[simp] theorem clearStatusBits_MSG (s : State) : (clearStatusBits s).MSG = s.MSG := rfl
@[simp] theorem clearStatusBits_busy (s : State) : (clearStatusBits s).busy = s.busy := rfl
@[simp] theorem clearStatusBits_done (s : State) : (clearStatusBits s).done = false := rfl
@[simp] theorem clearStatusBits_errAcc (s : State) : (clearStatusBits s).errAcc = false := rfl
@[simp] theorem clearStatusBits_errBusy (s : State) : (clearStatusBits s).errBusy = false := rfl
@[simp] theorem clearStatusBits_errCmd (s : State) : (clearStatusBits s).errCmd = false := rfl
@[simp] theorem clearStatusBits_vars (s : State) : (clearStatusBits s).vars = s.vars := rfl
@[simp] theorem clearStatusBits_W (s : State) : (clearStatusBits s).W = s.W := rfl
@[simp] theorem clearStatusBits_t (s : State) : (clearStatusBits s).t = s.t := rfl
@[simp] theorem clearStatusBits_rdata (s : State) : (clearStatusBits s).rdata = s.rdata := rfl
@[simp] theorem clearStatusBits_turns (s : State) : (clearStatusBits s).turns = s.turns := rfl

@[simp] theorem start_H (s : State) : (start s).H = s.H := rfl
@[simp] theorem start_MSG (s : State) : (start s).MSG = s.MSG := rfl
@[simp] theorem start_busy (s : State) : (start s).busy = true := rfl
@[simp] theorem start_done (s : State) : (start s).done = false := rfl
@[simp] theorem start_errAcc (s : State) : (start s).errAcc = s.errAcc := rfl
@[simp] theorem start_errBusy (s : State) : (start s).errBusy = s.errBusy := rfl
@[simp] theorem start_errCmd (s : State) : (start s).errCmd = s.errCmd := rfl
@[simp] theorem start_vars (s : State) : (start s).vars = workingOf s.H := rfl
@[simp] theorem start_W (s : State) : (start s).W = schedule s.MSG := rfl
@[simp] theorem start_t (s : State) : (start s).t = 0 := rfl
@[simp] theorem start_rdata (s : State) : (start s).rdata = s.rdata := rfl
@[simp] theorem start_turns (s : State) : (start s).turns = s.turns := rfl

@[simp] theorem roundStep_H (s : State) (ht : s.t.val < 80) : (roundStep s ht).H = s.H := rfl
@[simp] theorem roundStep_MSG (s : State) (ht : s.t.val < 80) : (roundStep s ht).MSG = s.MSG := rfl
@[simp] theorem roundStep_busy (s : State) (ht : s.t.val < 80) : (roundStep s ht).busy = s.busy := rfl
@[simp] theorem roundStep_done (s : State) (ht : s.t.val < 80) : (roundStep s ht).done = s.done := rfl
@[simp] theorem roundStep_errAcc (s : State) (ht : s.t.val < 80) : (roundStep s ht).errAcc = s.errAcc := rfl
@[simp] theorem roundStep_errBusy (s : State) (ht : s.t.val < 80) : (roundStep s ht).errBusy = s.errBusy := rfl
@[simp] theorem roundStep_errCmd (s : State) (ht : s.t.val < 80) : (roundStep s ht).errCmd = s.errCmd := rfl
@[simp] theorem roundStep_vars (s : State) (ht : s.t.val < 80) : (roundStep s ht).vars = roundAt s.W ⟨s.t.val, ht⟩ s.vars := rfl
@[simp] theorem roundStep_W (s : State) (ht : s.t.val < 80) : (roundStep s ht).W = s.W := rfl
@[simp] theorem roundStep_t (s : State) (ht : s.t.val < 80) : (roundStep s ht).t = ⟨s.t.val + 1, Nat.succ_lt_succ ht⟩ := rfl
@[simp] theorem roundStep_rdata (s : State) (ht : s.t.val < 80) : (roundStep s ht).rdata = s.rdata := rfl
@[simp] theorem roundStep_turns (s : State) (ht : s.t.val < 80) : (roundStep s ht).turns = s.turns := rfl

@[simp] theorem finish_H (s : State) : (finish s).H = feedForward s.H s.vars := rfl
@[simp] theorem finish_MSG (s : State) : (finish s).MSG = s.MSG := rfl
@[simp] theorem finish_busy (s : State) : (finish s).busy = false := rfl
@[simp] theorem finish_done (s : State) : (finish s).done = true := rfl
@[simp] theorem finish_errAcc (s : State) : (finish s).errAcc = s.errAcc := rfl
@[simp] theorem finish_errBusy (s : State) : (finish s).errBusy = s.errBusy := rfl
@[simp] theorem finish_errCmd (s : State) : (finish s).errCmd = s.errCmd := rfl
@[simp] theorem finish_vars (s : State) : (finish s).vars = s.vars := rfl
@[simp] theorem finish_W (s : State) : (finish s).W = s.W := rfl
@[simp] theorem finish_t (s : State) : (finish s).t = 0 := rfl
@[simp] theorem finish_rdata (s : State) : (finish s).rdata = s.rdata := rfl
@[simp] theorem finish_turns (s : State) : (finish s).turns = s.turns := rfl

end Sys2Proof.Machine
end

