-- ==== Sys2Proof/Laws/Ops.lean ====
section
/-! SUPPORT. One lemma for each shared operation that says all it can do, to be cited where the operation would otherwise be
unfolded. -/

namespace Sys2Proof.Machine

/-! ### Refusals and the busy gate -/

theorem gated_idle {s : State} (hs : s.busy = false) (u : State) : gated s u = u := by
  simp [gated, hs]

theorem gated_busy {s : State} (hs : s.busy = true) (u : State) : gated s u = { s with errBusy := true } := by
  simp [gated, hs, refuse, setError]

/-- A gated write or command is refused with ERR_BUSY, or it is accepted and BUSY is 0. -/
theorem gated_cases (s u : State) :
    (s.busy = true ∧ gated s u = { s with errBusy := true }) ∨ (s.busy = false ∧ gated s u = u) := by
  rcases Bool.eq_false_or_eq_true s.busy with hs | hs
  · exact .inl ⟨hs, gated_busy hs u⟩
  · exact .inr ⟨hs, gated_idle hs u⟩

theorem gatedRead_idle {s : State} (hs : s.busy = false) (v : Word) : gatedRead v s = { s with rdata := v } := by
  simp [gatedRead, hs, answer]

theorem gatedRead_busy {s : State} (hs : s.busy = true) (v : Word) :
    gatedRead v s = { s with errBusy := true, rdata := 0 } := by
  simp [gatedRead, hs, refuseRead, setError]

/-- A gated read is refused with ERR_BUSY and returns 0, or BUSY is 0 and it returns the register. -/
theorem gatedRead_cases (v : Word) (s : State) :
    (s.busy = true ∧ gatedRead v s = { s with errBusy := true, rdata := 0 }) ∨
    (s.busy = false ∧ gatedRead v s = { s with rdata := v }) := by
  rcases Bool.eq_false_or_eq_true s.busy with hs | hs
  · exact .inl ⟨hs, gatedRead_busy hs v⟩
  · exact .inr ⟨hs, gatedRead_idle hs v⟩

/-- A transaction that is no instruction sets ERR_ACC or ERR_CMD, by the check it fails, and a read of them returns 0. -/
theorem rejectTransaction_cases (tx : Transaction) (e : Reject) (s : State) :
    (e = .rsvdNonzero ∧ (rejectTransaction tx e s = { s with errCmd := true } ∨
      rejectTransaction tx e s = { s with errCmd := true, rdata := 0 })) ∨
    (e ≠ .rsvdNonzero ∧ (rejectTransaction tx e s = { s with errAcc := true } ∨
      rejectTransaction tx e s = { s with errAcc := true, rdata := 0 })) := by
  cases tx <;> cases e <;> simp [rejectTransaction, refuse, refuseRead, setError, errorOf]

/-! ### Commands -/

/-- What a legal command can do. -/
theorem performCommand_cases (s : State) (c : Command) :
    (c = .nop ∧ performCommand s c = s) ∨
    (c = .clearStatus ∧ performCommand s c = clearStatusBits s) ∨
    (c ≠ .nop ∧ c ≠ .clearStatus ∧ s.busy = true ∧ performCommand s c = { s with errBusy := true }) ∨
    (c = .init ∧ s.busy = false ∧ performCommand s c = loadInitialHash s) ∨
    (c = .compress ∧ s.busy = false ∧ performCommand s c = start s) ∨
    (c = .zeroize ∧ s.busy = false ∧ performCommand s c = zeroizeState s) := by
  cases c <;> cases hs : s.busy <;> simp [performCommand, gated, hs, refuse, setError]

/-- A word written to CTRL is illegal and sets ERR_CMD, or it carries a command, which is performed. -/
theorem submitCommand_cases (v : Word) (s : State) :
    (commandOf v = none ∧ submitCommand v s = { s with errCmd := true }) ∨
    ∃ c, commandOf v = some c ∧ submitCommand v s = performCommand s c := by
  cases hc : commandOf v with
  | none => exact .inl ⟨rfl, by simp [submitCommand, hc, refuse, setError]⟩
  | some c => exact .inr ⟨c, rfl, by simp [submitCommand, hc]⟩

/-- The low four bits of a word whose other bits are 0 are the word. -/
theorem word_of_fields {v : Word} (hr : cmdRsvd v = 0) : v = (cmdOp v).setWidth 64 := by
  apply BitVec.eq_of_getLsbD_eq
  intro i hi
  by_cases h4 : i < 4
  · simp [cmdOp, hi, h4]
  · have h := congrArg (fun x : BitVec 60 => x.getLsbD (i - 4)) hr
    have h1 : i - 4 < 60 := by omega
    have h2 : 4 + (i - 4) = i := by omega
    simp [cmdRsvd, h1, h2] at h
    simp [cmdOp, BitVec.getLsbD_setWidth, h4, h]

/-- Only the five legal words carry a command, each its own. -/
theorem commandOf_eq_some {v : Word} {c : Command} (h : commandOf v = some c) : v = c.word := by
  unfold commandOf at h
  split at h
  · cases h
  · rename_i hr
    have hv := word_of_fields (not_not.mp hr)
    split at h
    · rename_i ho; cases h; rw [hv, ho]; rfl
    split at h
    · rename_i ho; cases h; rw [hv, ho]; rfl
    split at h
    · rename_i ho; cases h; rw [hv, ho]; rfl
    split at h
    · rename_i ho; cases h; rw [hv, ho]; rfl
    split at h
    · rename_i ho; cases h; rw [hv, ho]; rfl
    · cases h

theorem commandOf_word (c : Command) : commandOf c.word = some c := by
  cases c <;> decide

/-! ### The engine -/

theorem engineStep_idle {s : State} (hs : s.busy = false) : engineStep s = s := by
  simp [engineStep, hs]

theorem engineStep_round {s : State} (hs : s.busy = true) (ht : s.t.val < 80) : engineStep s = roundStep s ht := by
  simp [engineStep, hs, ht]

theorem engineStep_finish {s : State} (hs : s.busy = true) (ht : ¬s.t.val < 80) : engineStep s = finish s := by
  simp [engineStep, hs, ht]

/-- The engine's turn: nothing when idle, ROUND below 80, FINISH at 80. -/
theorem engineStep_cases (s : State) :
    (s.busy = false ∧ engineStep s = s) ∨
    (∃ ht : s.t.val < 80, s.busy = true ∧ engineStep s = roundStep s ht) ∨
    (s.t = 80 ∧ s.busy = true ∧ engineStep s = finish s) := by
  cases hs : s.busy
  · exact .inl ⟨rfl, engineStep_idle hs⟩
  · by_cases ht : s.t.val < 80
    · exact .inr (.inl ⟨ht, rfl, engineStep_round hs ht⟩)
    · refine .inr (.inr ⟨?_, rfl, engineStep_finish hs ht⟩)
      apply Fin.ext
      have := s.t.isLt
      show s.t.val = 80
      omega

@[simp] theorem rounds_zero (W : Vector Word 80) (v : Working) (h : 0 ≤ 80) : rounds W v 0 h = v := rfl

theorem rounds_succ (W : Vector Word 80) (v : Working) (n : Nat) (h : n + 1 ≤ 80) :
    rounds W v (n + 1) h = roundAt W ⟨n, h⟩ (rounds W v n (Nat.le_of_succ_le h)) := rfl

/-! ### The schedule -/

@[simp] theorem expandSchedule_zero (block : Vector Word 16) : expandSchedule block 0 = block := rfl

theorem expandSchedule_succ (block : Vector Word 16) (k : Nat) :
    expandSchedule block (k + 1) =
      (expandSchedule block k).push
        (smallSigma1 (expandSchedule block k)[14 + k] + (expandSchedule block k)[9 + k] +
          smallSigma0 (expandSchedule block k)[1 + k] + (expandSchedule block k)[k]) := rfl

/-- A word of the schedule keeps its value when more words are added. -/
theorem expandSchedule_get_succ (block : Vector Word 16) (k t : Nat) (ht : t < 16 + k) :
    (expandSchedule block (k + 1))[t]'(by omega) = (expandSchedule block k)[t] := by
  simp [expandSchedule_succ, ht]

/-! ### The step -/

theorem hostStep_ok {tx : Transaction} {i : Instr} (h : decode tx = .ok i) (s : State) : hostStep tx s = exec i s := by
  simp [hostStep, h]

theorem hostStep_error {tx : Transaction} {e : Reject} (h : decode tx = .error e) (s : State) :
    hostStep tx s = .next (rejectTransaction tx e s) := by
  simp [hostStep, h]

/-- What a step can do: the agent of the first turn takes its step, the engine when no turn is left. -/
theorem step_cases {s u : State} (h : step s = .next u) :
    (s.turns = [] ∧ u = engineStep s) ∨
    (∃ rest, s.turns = .engine :: rest ∧ u = engineStep { s with turns := rest }) ∨
    (∃ rest, s.turns = .reset :: rest ∧ u = resetEvent { s with turns := rest }) ∨
    (∃ tx rest, s.turns = .host tx :: rest ∧ hostStep tx { s with turns := rest } = .next u) := by
  unfold step at h
  split at h
  · rename_i ht; cases h; exact .inl ⟨ht, rfl⟩
  · rename_i tx rest ht; exact .inr (.inr (.inr ⟨tx, rest, ht, h⟩))
  · rename_i rest ht; cases h; exact .inr (.inl ⟨rest, ht, rfl⟩)
  · rename_i rest ht; cases h; exact .inr (.inr (.inl ⟨rest, ht, rfl⟩))

end Sys2Proof.Machine
end

