-- ==== Sys2Proof/Laws/PerInstr.lean ====
section
/-! SUPPORT. The family OwnRow, one lemma per instruction: the word of a well-formed instruction matches the row of the opcode
table that bears its mnemonic, and no other row (R100). -/

namespace Sys2Proof.Laws.OwnRow

/-- The mnemonics of the rows of the opcode table that apply to a transaction (R100). -/
def rowsOf (tx : Transaction) : List String :=
  match tx, busKey tx with
  | .command v, _ => (cmdRows.filter (·.applies v)).map CmdRow.mnemonic
  | _, some key => (busRows.filter (·.applies key)).map BusRow.mnemonic
  | _, none => []

/-- The instruction's word matches its own row and no other. -/
def Statement (i : Instr) : Prop := i.wellFormed = true → rowsOf (encode i) = [i.mnemonic]

theorem nop : Statement .nop := by intro _; decide
theorem init : Statement .init := by intro _; decide
theorem compress : Statement .compress := by intro _; decide
theorem zeroize : Statement .zeroize := by intro _; decide
theorem clearStatus : Statement .clearStatus := by intro _; decide
theorem reservedCmd5 : Statement .reservedCmd5 := by intro _; decide
theorem reservedCmd67 : ∀ op, Statement (.reservedCmd67 op) := by unfold Statement; decide
theorem reservedCmd8F : ∀ op, Statement (.reservedCmd8F op) := by unfold Statement; decide
theorem rd64Ctrl : Statement .rd64Ctrl := by intro _; decide
theorem rd64Status : Statement .rd64Status := by intro _; decide
theorem rd64Msg : ∀ i, Statement (.rd64Msg i) := by unfold Statement; decide
theorem rd64H : ∀ j, Statement (.rd64H j) := by unfold Statement; decide
theorem wr64Ctrl : ∀ wdata, Statement (.wr64Ctrl wdata) := by intro _ _; rfl
theorem wr64Status : ∀ wdata, Statement (.wr64Status wdata) := by intro _ _; rfl

theorem wr64Msg : ∀ i wdata, Statement (.wr64Msg i wdata) := by
  have h : ∀ i, rowsOf (encode (.wr64Msg i 0)) = ["WR64_MSG"] := by decide
  intro i wdata _
  exact h i

theorem wr64H : ∀ j wdata, Statement (.wr64H j wdata) := by
  have h : ∀ j, rowsOf (encode (.wr64H j 0)) = ["WR64_H"] := by decide
  intro j wdata _
  exact h j

end Sys2Proof.Laws.OwnRow
end

