-- ==== Sys2Proof/Tests/Slice0.lean ====
section
/-! SUPPORT. Tests. Expected values are taken from spec/95_test_vectors.md (the vector's id stands in the comment) or worked out
by hand from the rules cited. -/

namespace Sys2Proof.Tests
open Sys2Proof.Machine

/-! ### Well-formedness: each check refuses an ill-formed term -/

theorem test_wellFormed_refuses_cmd67_low : Instr.wellFormed (.reservedCmd67 5) = false := by decide
theorem test_wellFormed_refuses_cmd67_high : Instr.wellFormed (.reservedCmd67 8) = false := by decide
theorem test_wellFormed_refuses_cmd8F : Instr.wellFormed (.reservedCmd8F 7) = false := by decide

/-! ### Decoding: words written out from R93 and R100 (dir, off[8:0], n[3:0]) -/

theorem test_decode_nop : decodeTableWord 64 0x0000000000000000 = some .nop := by decide
theorem test_decode_init : decodeTableWord 64 0x0000000000000001 = some .init := by decide
theorem test_decode_compress : decodeTableWord 64 0x0000000000000002 = some .compress := by decide
theorem test_decode_zeroize : decodeTableWord 64 0x0000000000000003 = some .zeroize := by decide
theorem test_decode_clearStatus : decodeTableWord 64 0x0000000000000004 = some .clearStatus := by decide
theorem test_decode_reservedCmd5 : decodeTableWord 64 0x0000000000000005 = some .reservedCmd5 := by decide
theorem test_decode_reservedCmd67 : decodeTableWord 64 0x0000000000000007 = some (.reservedCmd67 7) := by decide
theorem test_decode_reservedCmd8F : decodeTableWord 64 0x000000000000000F = some (.reservedCmd8F 15) := by decide
theorem test_decode_rsvd_set : decodeTableWord 64 0x0000000000000012 = none := by decide
theorem test_decode_rd64Ctrl : decodeTableWord 16 0b0_000000000_1000 = some .rd64Ctrl := by decide
theorem test_decode_rd64Status : decodeTableWord 16 0b0_000001000_1000 = some .rd64Status := by decide
theorem test_decode_rd64Msg : decodeTableWord 16 0b0_010101000_1000 = some (.rd64Msg 5) := by decide
theorem test_decode_rd64H : decodeTableWord 16 0b0_100011000_1000 = some (.rd64H 3) := by decide
theorem test_decode_wr64Ctrl : decodeTableWord 80 (0b1_000000000_1000 + 0x12 * 2 ^ 16) = some (.wr64Ctrl 0x12) := by decide
theorem test_decode_wr64Status : decodeTableWord 80 (0b1_000001000_1000 + 0x1C * 2 ^ 16) = some (.wr64Status 0x1C) := by decide
theorem test_decode_wr64Msg : decodeTableWord 80 (0b1_011111000_1000 + 0x18 * 2 ^ 16) = some (.wr64Msg 15 0x18) := by decide
theorem test_decode_wr64H :
    decodeTableWord 80 (0b1_100111000_1000 + 0x5BE0CD19137E2179 * 2 ^ 16) = some (.wr64H 7 0x5BE0CD19137E2179) := by decide
theorem test_decode_unmapped : decode (.read 0x010 8) = .error .unmapped := by decide
theorem test_decode_unmapped_after_H : decode (.write 0x140 8 0) = .error .unmapped := by decide
theorem test_decode_misaligned : decode (.read 0x084 8) = .error .misaligned := by decide
theorem test_decode_size_24 : decode (.read 0x080 24) = .error .badSize := by decide

/-! ### The datapath -/

/-- W21. -/
theorem test_rotr_19 : rotr 19 0x0123456789ABCDEF = 0x79BDE02468ACF135 := by decide
/-- W38. -/
theorem test_ch : ch 0x0123456789ABCDEF 0xFEDCBA9876543210 0xF0F0F0F0F0F0F0F0 = 0xF0D0B09070503010 := by decide
/-- W38. -/
theorem test_maj : maj 0x0123456789ABCDEF 0xFEDCBA9876543210 0xF0F0F0F0F0F0F0F0 = 0xF0F0F0F0F0F0F0F0 := by decide
/-- W33. -/
theorem test_bigSigma0 : bigSigma0 0x0123456789ABCDEF = 0xB7C57A100C7EC1AB := by decide
/-- W33. -/
theorem test_bigSigma1 : bigSigma1 0x0123456789ABCDEF = 0x7703112333475567 := by decide
/-- W33. -/
theorem test_smallSigma0 : smallSigma0 0x0123456789ABCDEF = 0x6F92C77C6C4F1AA1 := by decide
/-- W33. -/
theorem test_smallSigma1 : smallSigma1 0x0123456789ABCDEF = 0x70A3460DBBD4317A := by decide

/-- The block of "abc" (S1). -/
def abcBlock : Vector Word 16 := #v[0x6162638000000000, 0, 0, 0, 0, 0, 0, 0, 0, 0, 0, 0, 0, 0, 0, 0x18]

/-- S1. -/
theorem test_schedule_abc_31 : (schedule abcBlock)[31] = 0x0E987660934142F6 := by decide +kernel
/-- RD1. -/
theorem test_round_abc_0 :
    round (roundConstant 0) 0x6162638000000000 (workingOf initialHash) =
      ⟨0xF6AFCEB8BCFCDDF5, 0x6A09E667F3BCC908, 0xBB67AE8584CAA73B, 0x3C6EF372FE94F82B,
       0x58CB02347AB51F91, 0x510E527FADE682D1, 0x9B05688C2B3E6C1F, 0x1F83D9ABFB41BD6B⟩ := by decide +kernel
/-- RD4. -/
theorem test_round_ones :
    round (roundConstant 0) (-1) ⟨-1, -1, -1, -1, -1, -1, -1, -1⟩ =
      ⟨0x428A2F98D728AE1C, -1, -1, -1, 0x428A2F98D728AE1D, -1, -1, -1⟩ := by decide +kernel
/-- CP1: the known answer for "abc" (E3). -/
theorem test_compress_abc :
    compress initialHash abcBlock =
      #v[0xDDAF35A193617ABA, 0xCC417349AE204131, 0x12E6FA4E89A97EA2, 0x0A9EEEE64B55D39A,
         0x2192992A274FC1A8, 0x36BA3C23A3FEEBBD, 0x454D4423643CE80E, 0x2A9AC94FA54CA49F] := by decide +kernel

/-! ### One step on small states -/

/-- The state after a step, where there is one. -/
def after (s : State) : Option State :=
  match step s with
  | .next u => some u
  | .fault _ => none
  | .refused _ => none

/-- The STATUS word after the host's transaction in `s` (the effect column of 95_test_vectors.md section 6). -/
def statusAfter (tx : Transaction) (s : State) : Option Word := (after { s with turns := [.host tx] }).map statusWord

/-- The word a read returns in `s`. -/
def readBack (tx : Transaction) (s : State) : Option Word := (after { s with turns := [.host tx] }).map State.rdata

/-- A running state: BUSY = 1 and all data 0. -/
def running : State := { State.reset with busy := true }

/-- A state with MSG5 and H3 set (B3, B4) and an old word in rdata. -/
def loaded : State :=
  { State.reset with
    MSG := (Vector.replicate 16 0).set 5 0x1111111111111111
    H := (Vector.replicate 8 0).set 3 0x2222222222222222
    rdata := 7 }

/-- B1. -/
theorem test_rd64Ctrl : readBack (.read 0x000 8) loaded = some 0 := by decide
/-- B35. -/
theorem test_rd64Ctrl_running : statusAfter (.read 0x000 8) running = some 1 := by decide
/-- B25. -/
theorem test_rd64Status_running : readBack (.read 0x008 8) running = some 1 := by decide
/-- P4, line 26: the union of the error bits with DONE. -/
theorem test_rd64Status_all :
    readBack (.read 0x008 8) { State.reset with done := true, errAcc := true, errBusy := true, errCmd := true } = some 0x1E := by
  decide
/-- B3. -/
theorem test_rd64Msg : readBack (.read 0x0A8 8) loaded = some 0x1111111111111111 := by decide
/-- B23. -/
theorem test_rd64Msg_running : statusAfter (.read 0x080 8) running = some 9 := by decide
/-- B4. -/
theorem test_rd64H : readBack (.read 0x118 8) loaded = some 0x2222222222222222 := by decide
/-- R215, R216, R262: a refused read returns 0. -/
theorem test_rd64H_running : readBack (.read 0x118 8) { loaded with busy := true } = some 0 := by decide
/-- B5. -/
theorem test_wr64Msg : (after { State.reset with turns := [.host (.write 0x0F8 8 0x18)] }).map (·.MSG[15]) = some 0x18 := by
  decide
/-- R217: refused while BUSY = 1, MSG as it was. -/
theorem test_wr64Msg_running :
    (after { running with turns := [.host (.write 0x080 8 1)] }).map (fun u => (u.MSG[0], u.errBusy)) = some (0, true) := by
  decide
/-- B6. -/
theorem test_wr64H :
    (after { State.reset with turns := [.host (.write 0x138 8 0x5BE0CD19137E2179)] }).map (·.H[7]) =
      some 0x5BE0CD19137E2179 := by decide
/-- B24. -/
theorem test_wr64H_running : statusAfter (.write 0x100 8 0) running = some 9 := by decide
/-- B7. -/
theorem test_wr64Status : statusAfter (.write 0x008 8 0x1C) State.reset = some 4 := by decide
/-- B8: writing ones clears nothing. -/
theorem test_wr64Status_clears_nothing :
    statusAfter (.write 0x008 8 0x1C) { State.reset with errAcc := true, errCmd := true } = some 0x14 := by decide
/-- B20: OP = NOP with a bit of RSVD set. -/
theorem test_wr64Ctrl_rsvd : statusAfter (.write 0x000 8 0x10) State.reset = some 0x10 := by decide
/-- B21: the illegal word is refused with ERR_CMD and not with ERR_BUSY. -/
theorem test_wr64Ctrl_illegal_running : statusAfter (.write 0x000 8 0x12) running = some 0x11 := by decide
/-- B9. -/
theorem test_nop : statusAfter (.command 0) { State.reset with done := true, errCmd := true } = some 0x12 := by decide
/-- B10. -/
theorem test_init : (after { State.reset with turns := [.host (.command 1)] }).map (·.H[1]) = some 0xBB67AE8584CAA73B := by
  decide
/-- B11. -/
theorem test_init_running : statusAfter (.command 1) running = some 9 := by decide
/-- B12. -/
theorem test_compress_start : statusAfter (.command 2) { State.reset with done := true } = some 1 := by decide
/-- B13. -/
theorem test_compress_running : statusAfter (.command 2) running = some 9 := by decide
/-- B14. -/
theorem test_zeroize :
    (after { loaded with done := true, errAcc := true, turns := [.host (.command 3)] }).map
      (fun u => (u.MSG[5], u.H[3], statusWord u)) = some (0, 0, 4) := by decide
/-- B15. -/
theorem test_zeroize_running : statusAfter (.command 3) running = some 9 := by decide
/-- B16. -/
theorem test_clearStatus : statusAfter (.command 4) { State.reset with errAcc := true, errCmd := true } = some 0 := by decide
/-- B27. -/
theorem test_clearStatus_running : statusAfter (.command 4) running = some 1 := by decide
/-- B18. -/
theorem test_reservedCmd5 : statusAfter (.command 5) State.reset = some 0x10 := by decide
/-- B22. -/
theorem test_reservedCmd67_running : statusAfter (.command 7) running = some 0x11 := by decide
/-- B19. -/
theorem test_reservedCmd8F : statusAfter (.command 15) State.reset = some 0x10 := by decide
/-- B28. -/
theorem test_size_4 : statusAfter (.read 0x0A8 4) loaded = some 4 := by decide
/-- B29: the size check comes before the busy gate. -/
theorem test_size_4_running : statusAfter (.read 0x080 4) running = some 5 := by decide
/-- B33: a refused read returns 0. -/
theorem test_unmapped_read : readBack (.read 0x1F8 8) loaded = some 0 := by decide
/-- B34. -/
theorem test_wr_byte : statusAfter (.write 0x07F 1 0) State.reset = some 4 := by decide

/-- RD3: the engine's first round from zero working variables and a zero schedule. -/
theorem test_engine_round :
    (after { running with turns := [.engine] }).map (fun u => (u.vars.a, u.vars.e, u.vars.b, u.t)) =
      some (0x428A2F98D728AE22, 0x428A2F98D728AE22, 0, 1) := by decide +kernel
/-- R189: FINISH adds, clears BUSY and t, sets DONE; with no turn left the engine takes its step (log entry 1). -/
theorem test_engine_finish :
    (after { loaded with busy := true, t := 80, vars := ⟨0, 0, 0, 0xDDDDDDDDDDDDDDDF, 0, 0, 0, 9⟩ }).map
      (fun u => (u.H[3], u.H[7], statusWord u, u.t)) = some (1, 9, 2, 0) := by decide
/-- R190: an idle engine does nothing. -/
theorem test_engine_idle : after { loaded with turns := [.engine] } = some loaded := by decide
/-- R280: a reset abandons the running compression; the turns to come stay. -/
theorem test_reset_event :
    after { running with errCmd := true, t := 5, turns := [.reset, .engine] } = some { State.reset with turns := [.engine] } := by
  decide

/-! ### The host procedures -/

/-- Section 7.1: the zero bytes and the blocks of messages of 111 and 112 bytes. -/
theorem test_padding_boundary :
    (padZeros 111, blockCount 111, padZeros 112, blockCount 112, padZeros 1000000, blockCount 1000000) =
      (0, 1, 127, 2, 47, 7813) := by decide
/-- Section 7.2: "abc" packs to its block. -/
theorem test_messageBlocks_abc : messageBlocks [0x61, 0x62, 0x63] = [abcBlock] := by decide +kernel
/-- Section 7.2: Serialise. -/
theorem test_serialise :
    (serialise #v[0xDDAF35A193617ABA, 0, 0, 0, 0, 0, 0, 0]).take 8 = [0xdd, 0xaf, 0x35, 0xa1, 0x93, 0x61, 0x7a, 0xba] := by
  decide
/-- R241: a message of 2^122 bytes is one byte over the bound and gets no digest; a shorter one is in the domain. -/
theorem test_domain_bound (m : List Byte) (h : m.length = 2 ^ 122) : digest m = none ∧ inDomain (m.drop 1) = true := by
  constructor
  · exact digest_refused (by simp [inDomain, h])
  · simp [inDomain_iff, h]
/-- P1: the first line of the program, and `wr MSG15, 0x18`. -/
theorem test_expand :
    (AsmLine.clrstat.expand, (AsmLine.wr (.msg 15) 0x18).expand) =
      ([.transact (.write 0x000 8 4)], [.transact (.write 0x0F8 8 0x18)]) := by decide

/-! ### Witnesses: for each statement with hypotheses, a state and operands that meet them all, at the ends of their ranges -/

theorem witness_DecodeOfEncodeIsTheInstruction :
    Instr.wellFormed (.reservedCmd67 6) = true ∧ Instr.wellFormed (.reservedCmd67 7) = true ∧
    Instr.wellFormed (.reservedCmd8F 8) = true ∧ Instr.wellFormed (.reservedCmd8F 15) = true := by decide

theorem witness_DecodedTransactionIsItsEncoding :
    decode (.write 0x138 8 5) = .ok (.wr64H 7 5) ∧ decode (.command 0xF) = .ok (.reservedCmd8F 15) := by decide

theorem witness_DecoderAgreesWithOpcodeTable :
    busKey (.read 0x0F8 8) = some 0b0_011111000_1000 ∧ decode (.read 0x0F8 8) = .ok (.rd64Msg 15) ∧
    busKey (.read 0x0F8 15) = some 0b0_011111000_1111 ∧ decode (.read 0x0F8 15) = .error .badSize ∧ 16 ≤ 16 ∧
    decode (.command 4) = .ok .clearStatus ∧ decode (.command 0x10) = .error .rsvdNonzero := by decide

theorem witness_StepRunsTheDecodedInstruction :
    { loaded with turns := [.host (.read 0x118 8), .engine] }.turns = .host (.read 0x118 8) :: [.engine] ∧
    decode (.read 0x118 8) = .ok (.rd64H 3) ∧
    { loaded with turns := [.host (.read 0x118 4)] }.turns = .host (.read 0x118 4) :: [] ∧
    decode (.read 0x118 4) = .error .badSize := by decide

theorem witness_WrongSizeOrAlignmentIsRefused :
    (7 ≠ 8 ∨ (0x080#9).toNat % 8 ≠ 0) ∧ (8 ≠ 8 ∨ (0x0F9#9).toNat % 8 ≠ 0) := by decide

theorem witness_UnmappedOffsetIsRefused :
    (0x010 ≤ (0x010#9).toNat ∧ (0x010#9).toNat ≤ 0x07F) ∧ (0x010 ≤ (0x078#9).toNat ∧ (0x078#9).toNat ≤ 0x07F) ∧
    0x140 ≤ (0x140#9).toNat ∧ 0x140 ≤ (0x1F8#9).toNat := by decide

/-- An idle and a running state, for every statement whose only hypothesis is one value of BUSY: CompressIsRefusedWhileBusy,
ZeroizeClearsAllButTheErrorBits, ReadOfMsgReturnsTheRegister, ReadOfHReturnsTheRegister, WriteOfMsgSetsTheRegister,
WriteOfHSetsTheRegister. -/
theorem witness_idle_and_running : loaded.busy = false ∧ running.busy = true := by decide

theorem witness_InitLoadsTheInitialHash :
    loaded.busy = false ∧ exec .init loaded = .next { loaded with H := initialHash } := ⟨rfl, rfl⟩

theorem witness_CompressPerformsStart : loaded.busy = false ∧ 16 ≤ 16 ∧ 16 < 80 ∧ 16 ≤ 79 ∧ 79 < 80 := by decide

theorem witness_IllegalCommandSetsErrCmdOnly : 4 < (5#64).toNat ∧ 4 < (0xFFFFFFFFFFFFFFFF#64).toNat := by decide

theorem witness_WriteToCtrlPerformsTheCommand :
    loaded.busy = false ∧ running.busy = true ∧ 1 ≤ (1#64).toNat ∧ (1#64).toNat ≤ 3 ∧ 1 ≤ (3#64).toNat ∧
    (3#64).toNat ≤ 3 ∧ 4 < (5#64).toNat := by decide

theorem witness_WriteChangesOnlyItsOwnOffset :
    loaded.busy = false ∧ exec (.wr64Msg 15 1) loaded = .next (setMsg 15 1 loaded) ∧
    exec (.wr64H 7 1) loaded = .next (setH 7 1 loaded) ∧ (0x0F0#9) ≠ (Reg.msg 15).offset ∧
    (0x130#9) ≠ (Reg.h 7).offset := ⟨rfl, rfl, rfl, by decide, by decide⟩

theorem witness_RefusalIsPreciseAndSetsOneBit :
    (hostStep (.read 0x010 8) loaded = .next { loaded with errAcc := true, rdata := 0 } ∧ loaded.errAcc = false) ∧
    (hostStep (.read 0x080 8) running = .next { running with errBusy := true, rdata := 0 } ∧ running.errBusy = false) ∧
    (hostStep (.write 0x000 8 5) loaded = .next { loaded with errCmd := true } ∧ loaded.errCmd = false) :=
  ⟨⟨rfl, rfl⟩, ⟨rfl, rfl⟩, ⟨rfl, rfl⟩⟩

theorem witness_ErrorBitsAreSticky :
    (step { loaded with errAcc := true, turns := [.host (.command 0)] } = .next { loaded with errAcc := true } ∧
      (Turn.host (.command 0)).submits .clearStatus = false) ∧
    (step { loaded with errAcc := true, turns := [.host (.command 5)] } = .next { loaded with errAcc := true, errCmd := true } ∧
      loaded.errCmd = false) ∧
    (step { running with errCmd := true, turns := [.host (.read 0x080 8)] } =
        .next { running with errCmd := true, errBusy := true, rdata := 0 } ∧ running.errBusy = false) ∧
    (step { loaded with errCmd := true, turns := [.host (.write 0x008 8 0)] } =
        .next { loaded with errCmd := true, errAcc := true } ∧ loaded.errAcc = false) :=
  ⟨⟨rfl, by decide⟩, ⟨rfl, rfl⟩, ⟨rfl, rfl⟩, ⟨rfl, rfl⟩⟩

theorem witness_EngineTurnPerformsRound :
    { running with t := 79, turns := [.engine] }.t.val < 80 ∧ { running with t := 79, turns := [.engine] }.busy = true ∧
    { running with t := 79, turns := [.engine] }.turns = .engine :: [] ∧
    { running with turns := [.engine] }.t.val < 80 ∧ { running with turns := [.engine] }.turns = .engine :: [] := by
  decide

theorem witness_EngineTurnPerformsFinish :
    { running with t := 80, turns := [.engine] }.t = 80 ∧ { running with t := 80, turns := [.engine] }.busy = true ∧
    { running with t := 80, turns := [.engine] }.turns = .engine :: [] := by decide

theorem witness_EngineIsDisabledWhenIdle :
    { loaded with turns := [.engine] }.busy = false ∧ { loaded with turns := [.engine] }.turns = .engine :: [] := by decide

theorem witness_EngineTurnKeepsMsgAndErrorBits :
    (running.turns = [] ∧ step running = .next (roundStep running (by decide))) ∧
    ({ loaded with turns := [.engine] }.turns.head? = some .engine ∧
      step { loaded with turns := [.engine] } = .next loaded) := ⟨⟨rfl, rfl⟩, ⟨rfl, rfl⟩⟩

/-- The steps that BUSY, DONE, t, H and MSG change at: START, ROUND, FINISH and a reset; for the statements
RoundCounterAdvancesByOne, BusyChangesOnlyAtStartFinishReset and DoneChangesOnlyAsStated. -/
theorem witness_steps_that_change_the_flags :
    (step { loaded with turns := [.host (.command 2)] } = .next (start loaded) ∧ loaded.busy = false ∧
      (Turn.host (.command 2)).submits .compress = true) ∧
    (step { running with t := 80 } = .next (finish { running with t := 80 }) ∧ running.done = false) ∧
    step running = .next (roundStep running (by decide)) ∧
    (step { loaded with t := 80, turns := [.host (.command 3)] } = .next (zeroizeState loaded) ∧
      (Turn.host (.command 3)).submits .zeroize = true) ∧
    (step { running with done := true, turns := [.reset] } = .next State.reset ∧ running.busy = true) :=
  ⟨⟨rfl, rfl, by decide⟩, ⟨rfl, rfl⟩, rfl, ⟨rfl, by decide⟩, ⟨rfl, rfl⟩⟩

theorem witness_OnlyTheirWritersChangeHAndMsg :
    (step { loaded with turns := [.host (.write 0x138 8 1)] } = .next (setH 7 1 loaded) ∧
      (setH 7 1 loaded).H ≠ loaded.H) ∧
    (step { loaded with turns := [.host (.write 0x0F8 8 1)] } = .next (setMsg 15 1 loaded) ∧
      (setMsg 15 1 loaded).MSG ≠ loaded.MSG) := ⟨⟨rfl, by decide⟩, ⟨rfl, by decide⟩⟩

theorem witness_HostSeesOnlyStatusWhileBusy :
    running.busy = true ∧ hostStep (.read 0x008 8) running = .next (answer (statusWord running) running) := ⟨rfl, rfl⟩

theorem witness_ResetEventClearsTheEngine :
    { running with t := 80, turns := [.reset, .engine] }.turns = .reset :: [.engine] := by decide

theorem witness_RotationMovesEveryBit : 0 < 1 ∧ 1 < 64 ∧ 0 < 63 ∧ 63 < 64 ∧ (1 + 63) % 64 = 0 := by decide

theorem witness_SigmaFunctionsBitByBit : 0 < 64 ∧ 63 < 64 := by decide

theorem witness_ScheduleFollowsTheRecurrence : 16 ≤ 16 ∧ 16 < 80 ∧ 16 ≤ 79 ∧ 79 < 80 := by decide

/-- A running state that meets the invariant, with its next step. -/
theorem witness_StepKeepsTheEngineInvariant :
    (start loaded).Inv ∧ (start loaded).busy = true ∧
    step (start loaded) = .next (roundStep (start loaded) (by show 0 < 80; decide)) :=
  ⟨⟨fun h => Bool.noConfusion h, fun _ => ⟨rfl, rfl, rfl⟩⟩, rfl, rfl⟩

/-- The state `k` steps on, where there is one. -/
def stateAfter (k : Nat) (s : State) : State :=
  match core.run k s with
  | .next w => w
  | .fault _ => s
  | .refused _ => s

/-- Whether the machine runs `k` steps and is busy then. -/
def busyAfter (k : Nat) (s : State) : Bool :=
  match core.run k s with
  | .next w => State.busy w
  | .fault _ => false
  | .refused _ => false

theorem run_of_busyAfter {k : Nat} {s : State} (h : busyAfter k s = true) : core.run k s = .next (stateAfter k s) := by
  unfold busyAfter at h
  unfold stateAfter
  split at h <;> rename_i heq
  · rw [heq]
  · cases h
  · cases h

/-- An idle state after whose COMPRESS the engine has its 81 turns, and only then a reset comes. -/
def resetAfterFinish : State := { loaded with turns := List.replicate 81 .engine ++ [.reset] }

theorem witness_busy_for_80_steps : ∀ j : Fin 81, busyAfter j.val (start resetAfterFinish) = true := by decide +kernel

theorem witness_idle_after_81_steps :
    (match step (stateAfter 80 (start resetAfterFinish)) with
      | .next v => v.busy
      | .fault _ => true
      | .refused _ => true) = false := by decide +kernel

theorem witness_CompressionIsCorrectUnderEveryInterleaving :
    ∃ (s s₁ u v : State) (k : Nat), s.busy = false ∧ exec .compress s = .next s₁ ∧ s₁.noResetWithin (k + 1) ∧
      core.run k s₁ = .next u ∧ (∀ j w, j ≤ k → core.run j s₁ = .next w → w.busy = true) ∧
      step u = .next v ∧ v.busy = false := by
  have hv := witness_idle_after_81_steps
  cases hs : step (stateAfter 80 (start resetAfterFinish)) with
  | next v =>
    refine ⟨resetAfterFinish, start resetAfterFinish, stateAfter 80 (start resetAfterFinish), v, 80, rfl, rfl, ?_,
      run_of_busyAfter (witness_busy_for_80_steps 80), ?_, hs, ?_⟩
    · show Turn.reset ∉ (List.replicate 81 Turn.engine ++ [Turn.reset]).take (80 + 1)
      decide
    · intro j w hj hw
      have h := witness_busy_for_80_steps ⟨j, by omega⟩
      simp only [busyAfter, hw] at h
      exact h
    · rw [hs] at hv; exact hv
  | fault r => cases r
  | refused r => rw [hs] at hv; cases hv

theorem witness_CompressRunsToItsResultIn81EngineSteps :
    { loaded with turns := [.host (.write 0x000 8 0x2)] }.busy = false ∧
    { loaded with turns := [.host (.write 0x000 8 0x2)] }.turns = [.host (.write 0x000 8 0x2)] := by decide

theorem witness_PollingReadsBusyZeroInTheEnd :
    { running with t := 80, turns := [Turn.engine] ++ [Turn.host (.read 0x008 8)] }.busy = true ∧
    (∀ x ∈ [Turn.engine], x = Turn.engine ∨ x = Turn.host (.read 0x008 8)) ∧
    81 ≤ [Turn.engine].count .engine + ({ running with t := 80 } : State).t.val := by decide

theorem witness_HiddenStateIsInvisibleToTheHost :
    loaded.sameVisible { loaded with t := 3, vars := ⟨1, 2, 3, 4, 5, 6, 7, 8⟩ } ∧
    hostStep (.read 0x118 8) loaded = .next (answer 0x2222222222222222 loaded) :=
  ⟨⟨rfl, rfl, rfl, rfl, rfl, rfl, rfl, rfl, rfl⟩, rfl⟩

theorem witness_ControlDependsOnNoDataWord :
    loaded.sameControl State.reset ∧ step loaded = .next loaded ∧ step State.reset = .next State.reset :=
  ⟨⟨rfl, rfl, rfl, rfl, rfl, rfl, rfl⟩, rfl, rfl⟩

theorem witness_LengthFieldLandsInTheLastTwoWords : inDomain [] = true ∧ inDomain (List.replicate 112 0x61) = true := by
  simp [inDomain]

theorem witness_PackedWordIsBigEndian : 15 < 16 ∧ 7 < 8 ∧ (List.replicate 128 (0x61 : Byte)).length = 128 := by simp

theorem witness_InstancesAreIndependent :
    Platform.stepAt ⟨[loaded, running]⟩ 0 = .next ⟨[loaded, running]⟩ ∧ 1 ≠ 0 ∧
    (Platform.mk [loaded, running]).engines[0]? = some loaded ∧
    Platform.stepAt ⟨[loaded]⟩ 1 = .next ⟨[loaded]⟩ := ⟨rfl, by decide, rfl, rfl⟩

theorem witness_AddressesReachTheirOwnInstance :
    inWindow 0 (baseAddress 0) = true ∧ inWindow 0 (baseAddress 0 + 511) = true ∧ 1 ≠ 0 ∧
    0 < (Platform.mk [loaded]).engines.length := by
  simp [inWindow]

end Sys2Proof.Tests
end

section
/-! PROOFS. The step at the host's turn (R13, R210). -/

namespace Sys2Proof.Machine

/-- The agent of a host turn is the host, whatever its transaction decodes to (R13); log entry 1 takes the turn away. -/
theorem step_of_host_turn {s : State} {tx : Transaction} {rest : List Turn} (hturns : s.turns = .host tx :: rest) :
    step s = hostStep tx { s with turns := rest } := by
  simp only [step, hturns]

/-- Settles O5: the first part is the step at a host turn, and the second rewrites the host's step of a transaction that
decodes to `exec`. -/
theorem stepRunsTheDecodedInstruction : Obligations.StepRunsTheDecodedInstruction := by
  intro s tx rest hturns
  have hstep := step_of_host_turn hturns
  refine ⟨hstep, fun i hdecode => ?_⟩
  calc step s = hostStep tx { s with turns := rest } := hstep
    _ = exec i { s with turns := rest } := hostStep_ok hdecode _

end Sys2Proof.Machine
end

section
/-! PROOFS. Which command a transaction carries to CTRL (R90, R92, R93), and which transaction a register write is (R61, R91). -/

namespace Sys2Proof

/-- The command an instruction carries to CTRL: the five commands of format CMD, and the legal word of WR64_CTRL. -/
def Instr.command? : Instr → Option Command
  | .nop => some .nop
  | .init => some .init
  | .compress => some .compress
  | .zeroize => some .zeroize
  | .clearStatus => some .clearStatus
  | .wr64Ctrl wdata => Sys2Proof.commandOf wdata
  | .reservedCmd5 | .reservedCmd67 _ | .reservedCmd8F _ => none
  | .rd64Ctrl | .rd64Status | .rd64Msg _ | .rd64H _ => none
  | .wr64Status _ | .wr64Msg _ _ | .wr64H _ _ => none

/-- The command a transaction carries to CTRL, in either format. -/
def Transaction.command? (tx : Transaction) : Option Command :=
  match decode tx with
  | .ok i => i.command?
  | .error _ => none

theorem Transaction.command?_of_decode {tx : Transaction} {i : Instr} (hi : decode tx = .ok i) :
    tx.command? = i.command? := by
  simp [Transaction.command?, hi]

theorem Transaction.command?_of_reject {tx : Transaction} {e : Reject} (he : decode tx = .error e) :
    tx.command? = none := by
  simp [Transaction.command?, he]

/-- The offset of a register decides it: an aligned offset that names `r` is the offset of `r` (R61, R96). -/
theorem offset_of_regAt {off : BitVec 9} {r : Reg} (haligned : off.extractLsb' 0 3 = 0) (hr : regAt off = some r) :
    off = r.offset := by
  have hlow : off.toNat % 8 = 0 := by simpa using congrArg BitVec.toNat haligned
  have hlt : off.toNat < 512 := off.isLt
  unfold regAt at hr
  split_ifs at hr with hctrl hstatus hmsg hh <;> cases hr
  · exact hctrl
  · exact hstatus
  · have hhigh : off.toNat / 128 % 4 = 1 := by
      simpa [Nat.shiftRight_eq_div_pow] using congrArg BitVec.toNat hmsg
    apply BitVec.eq_of_toNat_eq
    simp [Reg.offset, Nat.shiftRight_eq_div_pow]
    omega
  · have hhigh : off.toNat / 64 % 8 = 4 := by
      simpa [Nat.shiftRight_eq_div_pow] using congrArg BitVec.toNat hh
    apply BitVec.eq_of_toNat_eq
    simp [Reg.offset, Nat.shiftRight_eq_div_pow]
    omega

/-- An access that names a register is one of 8 bytes at the register's own offset (R61 to R64). -/
theorem busTarget_eq_ok {off : BitVec 9} {n : Nat} {r : Reg} (h : busTarget off n = .ok r) : n = 8 ∧ off = r.offset := by
  unfold busTarget at h
  split_ifs at h with hsize haligned
  split at h
  · rename_i hr
    cases h
    exact ⟨not_not.mp hsize, offset_of_regAt (not_not.mp haligned) hr⟩
  · cases h

/-- No command word is a register write of format BUS. -/
theorem decodeCommand_ne_writeInstr (v wdata : Word) (r : Reg) : decodeCommand v ≠ .ok (writeInstr wdata r) := by
  unfold decodeCommand
  cases r <;> split_ifs <;> simp [writeInstr]

/-- Only the 8-byte write at the register's own offset decodes to the write of a register. -/
theorem write_of_decode {tx : Transaction} {wdata : Word} {r : Reg} (h : decode tx = .ok (writeInstr wdata r)) :
    tx = .write r.offset 8 wdata := by
  cases tx with
  | read off n =>
    simp only [decode] at h
    split at h
    · rename_i r' _
      cases r <;> cases r' <;> simp [readInstr, writeInstr] at h
    · cases h
  | write off n wdata' =>
    simp only [decode] at h
    split at h
    · rename_i r' hr'
      obtain ⟨rfl, rfl⟩ := busTarget_eq_ok hr'
      cases r <;> cases r' <;> simp_all [writeInstr]
    · cases h
  | command v => exact absurd h (decodeCommand_ne_writeInstr v wdata r)

end Sys2Proof

namespace Sys2Proof.Machine

/-- The instruction of a legal command word in format CMD (R93). -/
theorem decodeCommand_word (c : Command) : ∃ i, decodeCommand c.word = .ok i ∧ i.command? = some c := by
  cases c
  · exact ⟨.nop, rfl, rfl⟩
  · exact ⟨.init, rfl, rfl⟩
  · exact ⟨.compress, rfl, rfl⟩
  · exact ⟨.zeroize, rfl, rfl⟩
  · exact ⟨.clearStatus, rfl, rfl⟩

end Sys2Proof.Machine
end

section
/-! PROOFS. What one step can do (R13, R210): an inversion of the host's step and of the machine's. -/

namespace Sys2Proof.Machine

/-- An instruction carries a command exactly when it is one of the two rows the host can send it by (R90, R93, R94). -/
theorem command?_eq_some_iff {i : Instr} {c : Command} :
    i.command? = some c ↔ i = .wr64Ctrl c.word ∨ decodeCommand c.word = .ok i := by
  constructor
  · intro h
    cases i <;> simp only [Instr.command?, Option.some.injEq, reduceCtorEq] at h
    case wr64Ctrl v => exact .inl (by rw [commandOf_eq_some h])
    all_goals subst h; exact .inr rfl
  · rintro (rfl | hi)
    · exact commandOf_word c
    · obtain ⟨i', hi', hc⟩ := decodeCommand_word c
      cases hi'.symm.trans hi
      exact hc

@[simp] theorem submits_host (c : Command) (tx : Transaction) :
    (Turn.host tx).submits c = decide (tx.command? = some c) := by
  cases hd : decode tx with
  | error e => simp [Turn.submits, Transaction.command?_of_reject hd, hd]
  | ok i =>
    rw [Bool.eq_iff_iff]
    simp [Turn.submits, Transaction.command?_of_decode hd, hd, command?_eq_some_iff]

@[simp] theorem submits_engine (c : Command) : Turn.engine.submits c = false := rfl

@[simp] theorem submits_reset (c : Command) : Turn.reset.submits c = false := rfl

/-! ### Steps that only report to the host -/

/-- The state after a step that only reports to the host: the read word may be new and error bits may be set, none is
cleared (R28), and all else is as it was. -/
structure Reports (s u : State) : Prop where
  H : u.H = s.H
  MSG : u.MSG = s.MSG
  busy : u.busy = s.busy
  done : u.done = s.done
  vars : u.vars = s.vars
  W : u.W = s.W
  t : u.t = s.t
  errAcc : s.errAcc = true → u.errAcc = true
  errBusy : s.errBusy = true → u.errBusy = true
  errCmd : s.errCmd = true → u.errCmd = true

theorem reports_self (s : State) : Reports s s := by
  constructor <;> simp

theorem reports_refuse (e : ErrorBit) (s : State) : Reports s (refuse e s) := by
  cases e <;> constructor <;> simp

theorem reports_answer (v : Word) (s : State) : Reports s (answer v s) := by
  constructor <;> simp

theorem Reports.trans {s u w : State} (hsu : Reports s u) (huw : Reports u w) : Reports s w where
  H := huw.H.trans hsu.H
  MSG := huw.MSG.trans hsu.MSG
  busy := huw.busy.trans hsu.busy
  done := huw.done.trans hsu.done
  vars := huw.vars.trans hsu.vars
  W := huw.W.trans hsu.W
  t := huw.t.trans hsu.t
  errAcc := huw.errAcc ∘ hsu.errAcc
  errBusy := huw.errBusy ∘ hsu.errBusy
  errCmd := huw.errCmd ∘ hsu.errCmd

theorem reports_refuseRead (e : ErrorBit) (s : State) : Reports s (refuseRead e s) :=
  (reports_refuse e s).trans (reports_answer 0 (refuse e s))

theorem reports_gatedRead (v : Word) (s : State) : Reports s (gatedRead v s) := by
  unfold gatedRead
  split
  · exact reports_refuseRead .busy s
  · exact reports_answer v s

theorem reports_rejectTransaction (tx : Transaction) (e : Reject) (s : State) :
    Reports s (rejectTransaction tx e s) := by
  cases tx with
  | read off n => exact reports_refuseRead (errorOf e) s
  | write off n wdata => exact reports_refuse (errorOf e) s
  | command v => exact reports_refuse (errorOf e) s

/-! ### The host's step -/

/-- All that a host transaction can do (R210): it only reports, or it is one of the six transactions that change more, each
accepted. A command that only reports is NOP, or one that the busy gate holds back. -/
inductive HostEffect (tx : Transaction) (s : State) : State → Prop where
  | reports {u : State} :
      (∀ c, tx.command? = some c → c = .nop ∨ (c ≠ .clearStatus ∧ s.busy = true)) → Reports s u → HostEffect tx s u
  | clearStatus : tx.command? = some .clearStatus → HostEffect tx s (clearStatusBits s)
  | init : tx.command? = some .init → s.busy = false → HostEffect tx s (loadInitialHash s)
  | compress : tx.command? = some .compress → s.busy = false → HostEffect tx s (start s)
  | zeroize : tx.command? = some .zeroize → s.busy = false → HostEffect tx s (zeroizeState s)
  | writeMsg (i : Fin 16) (v : Word) :
      tx.command? = none → tx = .write (Reg.msg i).offset 8 v → s.busy = false → HostEffect tx s (setMsg i v s)
  | writeH (j : Fin 8) (v : Word) :
      tx.command? = none → tx = .write (Reg.h j).offset 8 v → s.busy = false → HostEffect tx s (setH j v s)

theorem hostEffect_of_reports {tx : Transaction} {s u : State} (hc : tx.command? = none) (hu : Reports s u) :
    HostEffect tx s u :=
  .reports (by simp [hc]) hu

/-- A legal command is performed, or the busy gate refuses it (R221 to R225). -/
theorem hostEffect_performCommand {tx : Transaction} {c : Command} (hc : tx.command? = some c) (s : State) :
    HostEffect tx s (performCommand s c) := by
  rcases performCommand_cases s c with
    ⟨rfl, hu⟩ | ⟨rfl, hu⟩ | ⟨-, hclear, hbusy, hu⟩ | ⟨rfl, hidle, hu⟩ | ⟨rfl, hidle, hu⟩ | ⟨rfl, hidle, hu⟩ <;> rw [hu]
  · exact .reports (by simp [hc]) (reports_self s)
  · exact .clearStatus hc
  · exact .reports (by simp [hc, hclear, hbusy]) (reports_refuse .busy s)
  · exact .init hc hidle
  · exact .compress hc hidle
  · exact .zeroize hc hidle

/-- An instruction that carries a command performs it, in either format (R90, R220). -/
theorem exec_of_command {i : Instr} {c : Command} (hc : i.command? = some c) (s : State) :
    exec i s = .next (performCommand s c) := by
  cases i <;> simp only [Instr.command?, Option.some.injEq, reduceCtorEq] at hc
  case wr64Ctrl v =>
    show Host.Outcome.next (submitCommand v s) = _
    rw [submitCommand, hc]
  all_goals subst hc; rfl

/-- An instruction that carries no command only reports, or it is an accepted write of a MSG or H register. -/
theorem exec_without_command {i : Instr} {s u : State} (hc : i.command? = none) (hu : exec i s = .next u) :
    Reports s u ∨
    (s.busy = false ∧ ∃ k v, i = .wr64Msg k v ∧ u = setMsg k v s) ∨
    (s.busy = false ∧ ∃ k v, i = .wr64H k v ∧ u = setH k v s) := by
  cases i <;> cases hu
  case nop | init | compress | zeroize | clearStatus => cases hc
  case reservedCmd5 | reservedCmd67 | reservedCmd8F => exact .inl (reports_refuse .cmd s)
  case rd64Ctrl | rd64Status => exact .inl (reports_answer _ s)
  case rd64Msg | rd64H => exact .inl (reports_gatedRead _ s)
  case wr64Status => exact .inl (reports_refuse .acc s)
  case wr64Ctrl v =>
    have hv : submitCommand v s = refuse .cmd s := by rw [submitCommand, show commandOf v = none from hc]
    exact .inl (hv ▸ reports_refuse .cmd s)
  case wr64Msg k v =>
    rcases gated_cases s (setMsg k v s) with ⟨-, hgated⟩ | ⟨hidle, hgated⟩ <;> rw [hgated]
    · exact .inl (reports_refuse .busy s)
    · exact .inr (.inl ⟨hidle, k, v, rfl, rfl⟩)
  case wr64H k v =>
    rcases gated_cases s (setH k v s) with ⟨-, hgated⟩ | ⟨hidle, hgated⟩ <;> rw [hgated]
    · exact .inl (reports_refuse .busy s)
    · exact .inr (.inr ⟨hidle, k, v, rfl, rfl⟩)

theorem hostStep_effect {tx : Transaction} {s u : State} (h : hostStep tx s = .next u) : HostEffect tx s u := by
  cases hd : decode tx with
  | error e =>
    rw [hostStep_error hd] at h
    cases h
    exact hostEffect_of_reports (Transaction.command?_of_reject hd) (reports_rejectTransaction tx e s)
  | ok i =>
    rw [hostStep_ok hd] at h
    have htx := Transaction.command?_of_decode hd
    cases hc : i.command? with
    | some c =>
      rw [exec_of_command hc] at h
      cases h
      exact hostEffect_performCommand (htx.trans hc) s
    | none =>
      rcases exec_without_command hc h with hu | ⟨hidle, k, v, rfl, rfl⟩ | ⟨hidle, k, v, rfl, rfl⟩
      · exact hostEffect_of_reports (htx.trans hc) hu
      · exact .writeMsg k v htx (write_of_decode (r := .msg k) hd) hidle
      · exact .writeH k v htx (write_of_decode (r := .h k) hd) hidle

/-! ### The machine's step -/

/-- The state whose first turn is taken away (log entry 1); it is the state itself when no turn is left. -/
def State.popTurn (s : State) : State := { s with turns := s.turns.tail }

@[simp] theorem popTurn_H (s : State) : s.popTurn.H = s.H := rfl
@[simp] theorem popTurn_MSG (s : State) : s.popTurn.MSG = s.MSG := rfl
@[simp] theorem popTurn_busy (s : State) : s.popTurn.busy = s.busy := rfl
@[simp] theorem popTurn_done (s : State) : s.popTurn.done = s.done := rfl
@[simp] theorem popTurn_errAcc (s : State) : s.popTurn.errAcc = s.errAcc := rfl
@[simp] theorem popTurn_errBusy (s : State) : s.popTurn.errBusy = s.errBusy := rfl
@[simp] theorem popTurn_errCmd (s : State) : s.popTurn.errCmd = s.errCmd := rfl
@[simp] theorem popTurn_vars (s : State) : s.popTurn.vars = s.vars := rfl
@[simp] theorem popTurn_W (s : State) : s.popTurn.W = s.W := rfl
@[simp] theorem popTurn_t (s : State) : s.popTurn.t = s.t := rfl
@[simp] theorem popTurn_rdata (s : State) : s.popTurn.rdata = s.rdata := rfl
@[simp] theorem popTurn_turns (s : State) : s.popTurn.turns = s.turns.tail := rfl

theorem popTurn_of_cons {s : State} {tn : Turn} {rest : List Turn} (h : s.turns = tn :: rest) :
    s.popTurn = { s with turns := rest } := by
  simp [State.popTurn, h]

theorem popTurn_of_nil {s : State} (h : s.turns = []) : s.popTurn = s := by
  cases s
  cases h
  rfl

/-- All that a step can do: the engine's enabled step, a reset, or what a host transaction can do (R13). -/
inductive StepEffect (s : State) : State → Prop where
  | idle : s.engineIsNext → s.busy = false → StepEffect s s.popTurn
  | round (ht : s.popTurn.t.val < 80) : s.engineIsNext → s.busy = true → StepEffect s (roundStep s.popTurn ht)
  | finish : s.engineIsNext → s.busy = true → s.t = 80 → StepEffect s (finish s.popTurn)
  | reset : s.turns.head? = some .reset → StepEffect s (resetEvent s.popTurn)
  | host {tx : Transaction} {u : State} :
      s.turns.head? = some (.host tx) → HostEffect tx s.popTurn u → StepEffect s u

theorem stepEffect_of_engine {s : State} (hnext : s.engineIsNext) : StepEffect s (engineStep s.popTurn) := by
  rcases engineStep_cases s.popTurn with ⟨hidle, hu⟩ | ⟨ht, hbusy, hu⟩ | ⟨ht, hbusy, hu⟩ <;> rw [hu]
  · exact .idle hnext hidle
  · exact .round ht hnext hbusy
  · exact .finish hnext hbusy ht

theorem step_effect {s u : State} (h : step s = .next u) : StepEffect s u := by
  rcases step_cases h with ⟨hturns, rfl⟩ | ⟨rest, hturns, rfl⟩ | ⟨rest, hturns, rfl⟩ | ⟨tx, rest, hturns, hu⟩
  · simpa only [popTurn_of_nil hturns] using stepEffect_of_engine (.inl hturns)
  · rw [← popTurn_of_cons hturns]
    exact stepEffect_of_engine (.inr (by simp [hturns]))
  · rw [← popTurn_of_cons hturns]
    exact .reset (by simp [hturns])
  · rw [← popTurn_of_cons hturns] at hu
    exact .host (by simp [hturns]) (hostStep_effect hu)

/-- Where the engine is next, no turn but the engine's is the first. -/
theorem eq_engine_of_engineIsNext {s : State} {tn : Turn} (hnext : s.engineIsNext) (hhead : s.turns.head? = some tn) :
    tn = .engine := by
  rcases hnext with hnil | hengine
  · simp [hnil] at hhead
  · exact Option.some.inj (hhead.symm.trans hengine)

end Sys2Proof.Machine
end

section
/-! PROOFS. The invariant of the engine (R31, R32), at reset and under every step. -/

namespace Sys2Proof.Machine

theorem inv_of_idle {s : State} (hbusy : s.busy = false) (ht : s.t = 0) : s.Inv :=
  ⟨fun _ => ht, by simp [hbusy]⟩

theorem t_of_inv {s : State} (hinv : s.Inv) (hbusy : s.busy = false) : s.t = 0 := hinv.1 hbusy

/-- The invariant speaks of H, MSG, BUSY, DONE and the hidden state; a step that keeps these, or clears DONE, keeps it. -/
theorem inv_of_engine_unchanged {s u : State} (hinv : s.Inv) (hH : u.H = s.H) (hMSG : u.MSG = s.MSG)
    (hbusy : u.busy = s.busy) (hdone : s.done = false → u.done = false) (hvars : u.vars = s.vars) (hW : u.W = s.W)
    (ht : u.t = s.t) : u.Inv := by
  obtain ⟨hidle, hrunning⟩ := hinv
  refine ⟨fun hb => ht.trans (hidle (hbusy ▸ hb)), fun hb => ?_⟩
  obtain ⟨hd, hsched, hrounds⟩ := hrunning (hbusy ▸ hb)
  refine ⟨hdone hd, by rw [hW, hMSG, hsched], ?_⟩
  simpa only [hvars, hW, hH, ht] using hrounds

theorem inv_of_reports {s u : State} (hinv : s.Inv) (hu : Reports s u) : u.Inv :=
  inv_of_engine_unchanged hinv hu.H hu.MSG hu.busy hu.done.trans hu.vars hu.W hu.t

/-- START lays down what the invariant says of zero rounds (R187). -/
theorem inv_start (s : State) : (start s).Inv :=
  ⟨by simp, fun _ => ⟨rfl, rfl, rfl⟩⟩

/-- ROUND t takes the working variables of t rounds to those of t + 1 (R188). -/
theorem inv_roundStep {s : State} (hinv : s.Inv) (hbusy : s.busy = true) (ht : s.t.val < 80) : (roundStep s ht).Inv := by
  obtain ⟨hdone, hsched, hrounds⟩ := hinv.2 hbusy
  refine ⟨by simp [hbusy], fun _ => ⟨hdone, hsched, ?_⟩⟩
  calc (roundStep s ht).vars = roundAt s.W ⟨s.t.val, ht⟩ s.vars := roundStep_vars s ht
    _ = roundAt s.W ⟨s.t.val, ht⟩ (rounds s.W (workingOf s.H) s.t.val _) := by rw [← hrounds]
    _ = rounds s.W (workingOf s.H) (s.t.val + 1) ht := (rounds_succ ..).symm

/-- What a host transaction does keeps the invariant: only START sets the engine going, and the busy gate keeps the host
off a running one (R192). -/
theorem inv_of_hostEffect {tx : Transaction} {s u : State} (hinv : s.Inv) (hu : HostEffect tx s u) : u.Inv := by
  cases hu with
  | reports _ hreports => exact inv_of_reports hinv hreports
  | clearStatus _ => exact inv_of_engine_unchanged hinv rfl rfl rfl (fun _ => rfl) rfl rfl rfl
  | init _ hidle =>
    have ht := t_of_inv hinv hidle
    exact inv_of_idle hidle ht
  | compress _ _ => exact inv_start s
  | zeroize _ hidle => exact inv_of_idle hidle rfl
  | writeMsg i v _ _ hidle =>
    have ht := t_of_inv hinv hidle
    exact inv_of_idle hidle ht
  | writeH j v _ _ hidle =>
    have ht := t_of_inv hinv hidle
    exact inv_of_idle hidle ht

/-- Settles O46: the engine is idle at reset, with its round counter at 0. -/
theorem resetMeetsTheEngineInvariant : Obligations.ResetMeetsTheEngineInvariant :=
  inv_of_idle rfl rfl

/-- Settles O47: the invariant without the first turn is the same invariant, and each agent's step keeps it. -/
theorem stepKeepsTheEngineInvariant : Obligations.StepKeepsTheEngineInvariant := by
  intro s u hinv hstep
  have hpop : s.popTurn.Inv := hinv
  cases step_effect hstep with
  | idle _ _ => exact hpop
  | round ht _ hbusy => exact inv_roundStep (s := s.popTurn) hpop hbusy ht
  | finish _ _ _ => exact inv_of_idle rfl rfl
  | reset _ => exact inv_of_idle rfl rfl
  | host _ heffect => exact inv_of_hostEffect hpop heffect

end Sys2Proof.Machine
end

section
/-! PROOFS. Who changes each element of the state: the error bits (R28), t (R32, R34), BUSY (R26), DONE (R27), H and MSG
(R21, R23). For each, what a host transaction can do to it, and then every step. -/

namespace Sys2Proof.Machine

/-! ### What a host transaction does to each element -/

/-- No host transaction but CLEAR_STATUS clears an error bit (R28). -/
theorem errorBits_of_hostEffect {tx : Transaction} {s u : State} (hu : HostEffect tx s u)
    (hclear : tx.command? ≠ some .clearStatus) :
    (s.errAcc = true → u.errAcc = true) ∧ (s.errBusy = true → u.errBusy = true) ∧
    (s.errCmd = true → u.errCmd = true) := by
  cases hu with
  | reports _ hreports => exact ⟨hreports.errAcc, hreports.errBusy, hreports.errCmd⟩
  | clearStatus hc => exact absurd hc hclear
  | init | compress | zeroize | writeMsg | writeH => exact ⟨id, id, id⟩

/-- A host transaction that changes t is an accepted COMPRESS or ZEROIZE, and sets it to 0 (R32). -/
theorem t_of_hostEffect {tx : Transaction} {s u : State} (hu : HostEffect tx s u) (hne : u.t ≠ s.t) :
    u.t = 0 ∧ s.busy = false ∧ (tx.command? = some .compress ∨ tx.command? = some .zeroize) := by
  cases hu with
  | reports _ hreports => exact absurd hreports.t hne
  | compress hc hidle => exact ⟨rfl, hidle, .inl hc⟩
  | zeroize hc hidle => exact ⟨rfl, hidle, .inr hc⟩
  | clearStatus | init | writeMsg | writeH => exact absurd rfl hne

/-- After a host transaction BUSY is 1 if it was, or if the transaction carries COMPRESS (R26). -/
theorem busy_of_hostEffect {tx : Transaction} {s u : State} (hu : HostEffect tx s u) :
    u.busy = true ↔ s.busy = true ∨ tx.command? = some .compress := by
  cases hu with
  | reports hc hreports =>
    rw [hreports.busy, or_iff_left_of_imp]
    intro hcompress
    simpa using hc .compress hcompress
  | clearStatus hc | init hc _ | zeroize hc _ | writeMsg _ _ hc | writeH _ _ hc => simp [hc]
  | compress hc _ => simp [hc]

/-- The host transactions that clear DONE: CLEAR_STATUS, and INIT, COMPRESS and ZEROIZE when BUSY is 0 (R27). -/
def clearsDone (tx : Transaction) (s : State) : Prop :=
  tx.command? = some .clearStatus ∨
  (s.busy = false ∧ (tx.command? = some .init ∨ tx.command? = some .compress ∨ tx.command? = some .zeroize))

/-- After a host transaction DONE is 1 only if it was, and the transaction is none of those that clear it (R27). -/
theorem done_of_hostEffect {tx : Transaction} {s u : State} (hu : HostEffect tx s u) :
    u.done = true ↔ s.done = true ∧ ¬ clearsDone tx s := by
  unfold clearsDone
  cases hu with
  | reports hc hreports =>
    rw [hreports.done, and_iff_left]
    rintro (hcmd | ⟨hidle, hcmd | hcmd | hcmd⟩)
    · simpa using hc _ hcmd
    all_goals simpa [hidle] using hc _ hcmd
  | clearStatus hc => simp [hc]
  | init hc hidle | compress hc hidle | zeroize hc hidle => simp [hc, hidle]
  | writeMsg _ _ hc | writeH _ _ hc => simp [hc]

/-- A host transaction that changes H is an accepted INIT, ZEROIZE or write of an H register (R21). -/
theorem H_of_hostEffect {tx : Transaction} {s u : State} (hu : HostEffect tx s u) (hne : u.H ≠ s.H) :
    s.busy = false ∧ (tx.command? = some .init ∨ tx.command? = some .zeroize ∨
      ∃ (j : Fin 8) (v : Word), tx = .write (Reg.h j).offset 8 v) := by
  cases hu with
  | reports _ hreports => exact absurd hreports.H hne
  | init hc hidle => exact ⟨hidle, .inl hc⟩
  | zeroize hc hidle => exact ⟨hidle, .inr (.inl hc)⟩
  | writeH j v _ htx hidle => exact ⟨hidle, .inr (.inr ⟨j, v, htx⟩)⟩
  | clearStatus | compress | writeMsg => exact absurd rfl hne

/-- A host transaction that changes MSG is an accepted ZEROIZE or write of a MSG register (R23). -/
theorem MSG_of_hostEffect {tx : Transaction} {s u : State} (hu : HostEffect tx s u) (hne : u.MSG ≠ s.MSG) :
    s.busy = false ∧ (tx.command? = some .zeroize ∨
      ∃ (i : Fin 16) (v : Word), tx = .write (Reg.msg i).offset 8 v) := by
  cases hu with
  | reports _ hreports => exact absurd hreports.MSG hne
  | zeroize hc hidle => exact ⟨hidle, .inl hc⟩
  | writeMsg i v _ htx hidle => exact ⟨hidle, .inr ⟨i, v, htx⟩⟩
  | clearStatus | init | compress | writeH => exact absurd rfl hne

/-! ### Every step -/

/-- Where the engine is next, no turn of another agent is the first. -/
theorem not_exists_head_of_engineIsNext {s : State} {P : Turn → Prop} (hnext : s.engineIsNext) (hP : ¬ P .engine) :
    ¬ ∃ tn, s.turns.head? = some tn ∧ P tn := by
  rintro ⟨tn, hhead, htn⟩
  exact hP (eq_engine_of_engineIsNext hnext hhead ▸ htn)

/-- Where another agent's turn is the first, the engine is not next. -/
theorem not_engineIsNext_of_head {s : State} {tn : Turn} (hhead : s.turns.head? = some tn) (htn : tn ≠ .engine) :
    ¬ s.engineIsNext :=
  fun hnext => htn (eq_engine_of_engineIsNext hnext hhead)

/-- Settles O28: the engine keeps the error bits, a reset only clears them, and a host transaction that is not CLEAR_STATUS
only sets them. -/
theorem errorBitsAreSticky : Obligations.ErrorBitsAreSticky := by
  intro s u hstep
  cases step_effect hstep with
  | idle | round | finish => simp +contextual
  | reset hhead => simp [hhead, State.reset]
  | @host tx _ hhead heffect =>
    refine ⟨fun _ hnot => ?_, ?_⟩
    · have hclear : tx.command? ≠ some .clearStatus := by simpa using hnot _ hhead
      exact errorBits_of_hostEffect (s := s.popTurn) heffect hclear
    · exact ⟨fun _ _ => ⟨tx, hhead⟩, fun _ _ => ⟨tx, hhead⟩, fun _ _ => ⟨tx, hhead⟩⟩

/-- Settles O33: the engine's own steps give the first two parts, and the third is what each agent's step does to t. -/
theorem roundCounterAdvancesByOne : Obligations.RoundCounterAdvancesByOne := by
  intro s u hstep
  cases step_effect hstep with
  | idle _ hidle => simp [hidle]
  | round ht hnext hbusy =>
    refine ⟨fun _ _ _ => rfl, fun _ _ h80 => ?_, fun _ => .inl ⟨hnext, hbusy⟩⟩
    simp [h80] at ht
  | finish hnext hbusy h80 =>
    refine ⟨fun _ _ ht => ?_, fun _ _ _ => rfl, fun _ => .inl ⟨hnext, hbusy⟩⟩
    simp [h80] at ht
  | reset hhead =>
    have hnext := not_engineIsNext_of_head hhead (by simp)
    exact ⟨fun h => absurd h hnext, fun h => absurd h hnext, fun _ => .inr ⟨rfl, .reset, hhead, .inl rfl⟩⟩
  | @host tx _ hhead heffect =>
    have hnext := not_engineIsNext_of_head hhead (by simp)
    refine ⟨fun h => absurd h hnext, fun h => absurd h hnext, fun hne => .inr ?_⟩
    obtain ⟨ht, hidle, hc⟩ := t_of_hostEffect heffect hne
    exact ⟨ht, .host tx, hhead, .inr ⟨hidle, by simpa using hc⟩⟩

/-- Settles O35: the engine's own steps keep BUSY below t = 80 and clear it at FINISH, a reset clears it, and of the host's
transactions only COMPRESS changes it, from 0 to 1. -/
theorem busyChangesOnlyAtStartFinishReset : Obligations.BusyChangesOnlyAtStartFinishReset := by
  intro s u hstep
  cases step_effect hstep with
  | idle hnext hidle =>
    have hhead := not_exists_head_of_engineIsNext (P := fun tn => tn.submits .compress = true) hnext (by simp)
    simp [hidle, hhead]
  | round ht hnext hbusy =>
    have hreset : s.turns.head? ≠ some .reset := fun h => by cases eq_engine_of_engineIsNext hnext h
    have h80 : s.t ≠ 80 := fun h => by simp [h] at ht
    simp [hbusy, hreset, h80]
  | finish hnext hbusy h80 => simp [hbusy, hnext, h80]
  | reset hhead => simp [hhead, State.reset]
  | host hhead heffect =>
    have hnext := not_engineIsNext_of_head hhead (by simp)
    have hbusy := busy_of_hostEffect heffect
    rw [popTurn_busy] at hbusy
    refine ⟨fun hidle => ?_, fun hrunning => ?_⟩
    · simpa [hhead, hidle] using hbusy
    · simp [hhead, hnext, hbusy.mpr (.inl hrunning)]

/-- Settles O36: only FINISH sets DONE, and of the other steps only a reset and the host's transactions of `clearsDone`
clear it. -/
theorem doneChangesOnlyAsStated : Obligations.DoneChangesOnlyAsStated := by
  intro s u hstep
  cases step_effect hstep with
  | idle hnext hidle =>
    refine ⟨fun hdone => by simp [hdone, hidle], fun hdone => ?_⟩
    exact iff_of_false (by simp [hdone]) (not_exists_head_of_engineIsNext hnext (by simp))
  | round ht hnext hbusy =>
    have h80 : s.t ≠ 80 := fun h => by simp [h] at ht
    refine ⟨fun hdone => by simp [hdone, h80], fun hdone => ?_⟩
    exact iff_of_false (by simp [hdone]) (not_exists_head_of_engineIsNext hnext (by simp))
  | finish hnext hbusy h80 =>
    refine ⟨fun _ => by simp [hnext, hbusy, h80], fun _ => ?_⟩
    exact iff_of_false (by simp) (not_exists_head_of_engineIsNext hnext (by simp))
  | reset hhead =>
    have hnext := not_engineIsNext_of_head hhead (by simp)
    simp [hhead, hnext, State.reset]
  | @host tx _ hhead heffect =>
    have hnext := not_engineIsNext_of_head hhead (by simp)
    have hdoneIff := done_of_hostEffect heffect
    rw [popTurn_done] at hdoneIff
    refine ⟨fun hdone => ?_, fun hdone => ?_⟩
    · simp [hnext, hdoneIff, hdone]
    · rw [← Bool.not_eq_true, hdoneIff, not_and_not_right]
      simp [hhead, hdone, clearsDone]

/-- Settles O37: FINISH and a reset are the only steps beside the host's that change H, a reset the only one that changes
MSG; the host's writers are those of `H_of_hostEffect` and `MSG_of_hostEffect`. -/
theorem onlyTheirWritersChangeHAndMsg : Obligations.OnlyTheirWritersChangeHAndMsg := by
  intro s u hstep
  cases step_effect hstep with
  | idle | round => simp
  | finish hnext hbusy h80 => exact ⟨fun _ => .inl ⟨hnext, hbusy, h80⟩, fun hne => absurd rfl hne⟩
  | reset hhead => exact ⟨fun _ => .inr ⟨.reset, hhead, .inl rfl⟩, fun _ => ⟨.reset, hhead, .inl rfl⟩⟩
  | @host tx _ hhead heffect =>
    refine ⟨fun hne => .inr ⟨.host tx, hhead, .inr ?_⟩, fun hne => ⟨.host tx, hhead, .inr ?_⟩⟩
    · simpa using H_of_hostEffect heffect hne
    · simpa using MSG_of_hostEffect heffect hne

end Sys2Proof.Machine
end

section
/-! PROOFS. The state after reset (R37). -/

namespace Sys2Proof.Machine

/-- Settles O39: each register file is a vector of zeros, and every other part is a value of the reset state. -/
theorem resetStateIsAllZero : Obligations.ResetStateIsAllZero :=
  ⟨fun j => Vector.getElem_replicate j.isLt, fun i => Vector.getElem_replicate i.isLt, rfl, rfl, rfl, rfl, rfl, rfl,
    fun t => Vector.getElem_replicate t.isLt, rfl, rfl, rfl⟩

end Sys2Proof.Machine
end

section
/-! PROOFS. The hidden state a..h, W and t is invisible to the host (R33): each operation takes states that differ only in
it to such states. -/

namespace Sys2Proof.Machine

theorem sameVisible_regValue {s₁ s₂ : State} (h : s₁.sameVisible s₂) (r : Reg) : regValue s₁ r = regValue s₂ r := by
  obtain ⟨hH, hMSG, hbusy, hdone, hacc, hbusyErr, hcmd, -, -⟩ := h
  cases r with
  | ctrl => rfl
  | status => simp only [regValue, statusWord, hbusy, hdone, hacc, hbusyErr, hcmd]
  | msg i => simp only [regValue, hMSG]
  | h j => simp only [regValue, hH]

theorem sameVisible_busy {s₁ s₂ : State} (h : s₁.sameVisible s₂) : s₁.busy = s₂.busy := by
  obtain ⟨-, -, hbusy, -⟩ := h
  exact hbusy

theorem sameVisible_refuse {s₁ s₂ : State} (h : s₁.sameVisible s₂) (e : ErrorBit) :
    (refuse e s₁).sameVisible (refuse e s₂) := by
  cases e <;> simp_all [State.sameVisible]

theorem sameVisible_answer {s₁ s₂ : State} (h : s₁.sameVisible s₂) (v : Word) :
    (answer v s₁).sameVisible (answer v s₂) := by
  simp_all [State.sameVisible]

theorem sameVisible_refuseRead {s₁ s₂ : State} (h : s₁.sameVisible s₂) (e : ErrorBit) :
    (refuseRead e s₁).sameVisible (refuseRead e s₂) :=
  sameVisible_answer (sameVisible_refuse h e) 0

/-- The busy gate decides alike, since BUSY is visible. -/
theorem sameVisible_gated {s₁ s₂ u₁ u₂ : State} (h : s₁.sameVisible s₂) (hu : u₁.sameVisible u₂) :
    (gated s₁ u₁).sameVisible (gated s₂ u₂) := by
  unfold gated
  rw [sameVisible_busy h]
  split
  · exact sameVisible_refuse h .busy
  · exact hu

theorem sameVisible_gatedRead {s₁ s₂ : State} (h : s₁.sameVisible s₂) (r : Reg) :
    (gatedRead (regValue s₁ r) s₁).sameVisible (gatedRead (regValue s₂ r) s₂) := by
  unfold gatedRead
  rw [sameVisible_busy h, sameVisible_regValue h]
  split
  · exact sameVisible_refuseRead h .busy
  · exact sameVisible_answer h _

theorem sameVisible_performCommand {s₁ s₂ : State} (h : s₁.sameVisible s₂) (c : Command) :
    (performCommand s₁ c).sameVisible (performCommand s₂ c) := by
  cases c with
  | nop => exact h
  | init | compress | zeroize => exact sameVisible_gated h (by simp_all [State.sameVisible])
  | clearStatus =>
    show (clearStatusBits s₁).sameVisible (clearStatusBits s₂)
    simp_all [State.sameVisible]

theorem sameVisible_submitCommand {s₁ s₂ : State} (h : s₁.sameVisible s₂) (v : Word) :
    (submitCommand v s₁).sameVisible (submitCommand v s₂) := by
  cases hc : commandOf v with
  | none => simpa only [submitCommand, hc] using sameVisible_refuse h .cmd
  | some c => simpa only [submitCommand, hc] using sameVisible_performCommand h c

theorem sameVisible_rejectTransaction {s₁ s₂ : State} (h : s₁.sameVisible s₂) (tx : Transaction) (e : Reject) :
    (rejectTransaction tx e s₁).sameVisible (rejectTransaction tx e s₂) := by
  cases tx with
  | read off n => exact sameVisible_refuseRead h (errorOf e)
  | write off n wdata => exact sameVisible_refuse h (errorOf e)
  | command v => exact sameVisible_refuse h (errorOf e)

theorem sameVisible_exec {i : Instr} {s₁ s₂ u₁ u₂ : State} (h : s₁.sameVisible s₂) (hu₁ : exec i s₁ = .next u₁)
    (hu₂ : exec i s₂ = .next u₂) : u₁.sameVisible u₂ := by
  cases i <;> cases hu₁ <;> cases hu₂
  case nop | init | compress | zeroize | clearStatus => exact sameVisible_performCommand h _
  case reservedCmd5 | reservedCmd67 | reservedCmd8F => exact sameVisible_refuse h .cmd
  case rd64Ctrl | rd64Status => rw [sameVisible_regValue h]; exact sameVisible_answer h _
  case rd64Msg | rd64H => exact sameVisible_gatedRead h _
  case wr64Ctrl v => exact sameVisible_submitCommand h v
  case wr64Status => exact sameVisible_refuse h .acc
  case wr64Msg | wr64H => exact sameVisible_gated h (by simp_all [State.sameVisible])

/-- Settles O51: the decoder sees the transaction alone, so both states execute the same instruction, or refuse alike. -/
theorem hiddenStateIsInvisibleToTheHost : Obligations.HiddenStateIsInvisibleToTheHost := by
  intro tx s₁ s₂ u₁ u₂ h hu₁ hu₂
  cases hd : decode tx with
  | ok i =>
    rw [hostStep_ok hd] at hu₁ hu₂
    exact sameVisible_exec h hu₁ hu₂
  | error e =>
    rw [hostStep_error hd] at hu₁ hu₂
    cases hu₁
    cases hu₂
    exact sameVisible_rejectTransaction h tx e

end Sys2Proof.Machine
end

section
/-! PROOFS. The register map of the window (R61, R96): the offset of each register as a number, and the access that names it. -/

namespace Sys2Proof

@[simp] theorem ctrl_offset_toNat : Reg.ctrl.offset.toNat = 0x000 := rfl

@[simp] theorem status_offset_toNat : Reg.status.offset.toNat = 0x008 := rfl

@[simp] theorem msg_offset_toNat (i : Fin 16) : (Reg.msg i).offset.toNat = 0x080 + 8 * i.val := by
  simp [Reg.offset]
  omega

@[simp] theorem h_offset_toNat (j : Fin 8) : (Reg.h j).offset.toNat = 0x100 + 8 * j.val := by
  simp [Reg.offset]
  omega

/-- Every register stands at a multiple of 8 (R61). -/
theorem offset_toNat_mod_eight (r : Reg) : r.offset.toNat % 8 = 0 := by
  cases r with
  | ctrl | status => rfl
  | msg i => rw [msg_offset_toNat]; omega
  | h j => rw [h_offset_toNat]; omega

/-- The mapped ranges of the window: no register stands outside them (R61). -/
theorem offset_toNat_mapped (r : Reg) :
    r.offset.toNat ≤ 0x008 ∨ (0x080 ≤ r.offset.toNat ∧ r.offset.toNat ≤ 0x138) := by
  cases r with
  | ctrl | status => exact .inl (by decide)
  | msg i => right; rw [msg_offset_toNat]; omega
  | h j => right; rw [h_offset_toNat]; omega

/-- An 8-byte access at a register's own offset names that register: the converse of `busTarget_eq_ok`. -/
theorem busTarget_offset (r : Reg) : busTarget r.offset 8 = .ok r := by
  cases r with
  | ctrl | status => rfl
  | msg i => revert i; decide
  | h j => revert j; decide

/-- An access that stands at no register is refused by one of the three checks of R94, never as a command word. -/
theorem busTarget_error_of_forall_ne {off : BitVec 9} {n : Nat} (h : ∀ r : Reg, n = 8 → off ≠ r.offset) :
    ∃ e, busTarget off n = .error e ∧ Machine.errorOf e = .acc := by
  cases htarget : busTarget off n with
  | ok r =>
    obtain ⟨hsize, hoff⟩ := busTarget_eq_ok htarget
    exact absurd hoff (h r hsize)
  | error e =>
    refine ⟨e, rfl, ?_⟩
    unfold busTarget at htarget
    split_ifs at htarget
    · cases htarget; rfl
    · cases htarget; rfl
    · split at htarget <;> cases htarget; rfl

end Sys2Proof
end

section
/-! PROOFS. Accesses that name no register (R63, R64). -/

namespace Sys2Proof.Machine

/-- An access that stands at no register is refused with ERR_ACC, and as a read it returns 0 (R63, R64, R262). -/
theorem hostStep_of_no_register {off : BitVec 9} {n : Nat} (h : ∀ r : Reg, n = 8 → off ≠ r.offset) (s : State)
    (wdata : Word) :
    hostStep (.read off n) s = .next { s with errAcc := true, rdata := 0 } ∧
    hostStep (.write off n wdata) s = .next { s with errAcc := true } := by
  obtain ⟨e, htarget, hacc⟩ := busTarget_error_of_forall_ne h
  have hread : decode (.read off n) = .error e := by simp only [decode, htarget]
  have hwrite : decode (.write off n wdata) = .error e := by simp only [decode, htarget]
  constructor
  · rw [hostStep_error hread, rejectTransaction, hacc]; rfl
  · rw [hostStep_error hwrite, rejectTransaction, hacc]; rfl

/-- Settles O6: registers are named by accesses of 8 bytes at multiples of 8, so this access stands at none. -/
theorem wrongSizeOrAlignmentIsRefused : Obligations.WrongSizeOrAlignmentIsRefused := by
  intro s off n wdata hbad
  refine hostStep_of_no_register (fun r hsize hoff => ?_) s wdata
  subst hsize hoff
  rcases hbad with hsize | halign
  · exact hsize rfl
  · exact halign (offset_toNat_mod_eight r)

/-- Settles O7: the two ranges lie outside those of `offset_toNat_mapped`, so no register stands in them. -/
theorem unmappedOffsetIsRefused : Obligations.UnmappedOffsetIsRefused := by
  intro s off n wdata hunmapped
  refine hostStep_of_no_register (fun r _ hoff => ?_) s wdata
  subst hoff
  have hmapped := offset_toNat_mapped r
  omega

end Sys2Proof.Machine
end

section
/-! PROOFS. What the window reads after a register write (R66, R72). -/

namespace Sys2Proof.Machine

theorem window_offset (s : State) (r : Reg) : window s r.offset = some (regValue s r) := by
  simp only [window, busTarget_offset]

/-- Two states that differ in one register at most read alike at every other offset of the window. -/
theorem window_eq_of_ne_offset {s u : State} {r : Reg} (hregs : ∀ r' ≠ r, regValue u r' = regValue s r')
    {off : BitVec 9} (hoff : off ≠ r.offset) : window u off = window s off := by
  unfold window
  cases htarget : busTarget off 8 with
  | error e => rfl
  | ok r' =>
    obtain ⟨-, rfl⟩ := busTarget_eq_ok htarget
    have hne : r' ≠ r := fun hr => hoff (congrArg Reg.offset hr)
    exact congrArg some (hregs r' hne)

theorem regValue_setMsg_same (i : Fin 16) (v : Word) (s : State) : regValue (setMsg i v s) (.msg i) = v := by
  simp [regValue]

theorem regValue_setMsg_ne (i : Fin 16) (v : Word) (s : State) {r : Reg} (hr : r ≠ .msg i) :
    regValue (setMsg i v s) r = regValue s r := by
  cases r with
  | ctrl | status | h => rfl
  | msg k =>
    have hne : i.val ≠ k.val := fun h => hr (congrArg Reg.msg (Fin.ext h.symm))
    exact Vector.getElem_set_ne i.isLt k.isLt hne

theorem regValue_setH_same (j : Fin 8) (v : Word) (s : State) : regValue (setH j v s) (.h j) = v := by
  simp [regValue]

theorem regValue_setH_ne (j : Fin 8) (v : Word) (s : State) {r : Reg} (hr : r ≠ .h j) :
    regValue (setH j v s) r = regValue s r := by
  cases r with
  | ctrl | status | msg => rfl
  | h k =>
    have hne : j.val ≠ k.val := fun h => hr (congrArg Reg.h (Fin.ext h.symm))
    exact Vector.getElem_set_ne j.isLt k.isLt hne

theorem exec_wr64Msg_idle {s : State} (hidle : s.busy = false) (i : Fin 16) (v : Word) :
    exec (.wr64Msg i v) s = .next (setMsg i v s) :=
  congrArg Host.Outcome.next (gated_idle hidle _)

theorem exec_wr64H_idle {s : State} (hidle : s.busy = false) (j : Fin 8) (v : Word) :
    exec (.wr64H j v) s = .next (setH j v s) :=
  congrArg Host.Outcome.next (gated_idle hidle _)

/-- Settles O26: an accepted write sets its own register and no other, and a register is read at its own offset only. -/
theorem writeChangesOnlyItsOwnOffset : Obligations.WriteChangesOnlyItsOwnOffset := by
  constructor
  · intro i v s u hidle hu
    rw [exec_wr64Msg_idle hidle] at hu
    cases hu
    refine ⟨by rw [window_offset, regValue_setMsg_same], fun off hoff => ?_⟩
    exact window_eq_of_ne_offset (fun _ hr => regValue_setMsg_ne i v s hr) hoff
  · intro j v s u hidle hu
    rw [exec_wr64H_idle hidle] at hu
    cases hu
    refine ⟨by rw [window_offset, regValue_setH_same], fun off hoff => ?_⟩
    exact window_eq_of_ne_offset (fun _ hr => regValue_setH_ne j v s hr) hoff

end Sys2Proof.Machine
end

section
/-! PROOFS. Where the length field of the padding lands (R69, R242): big-endian bytes as a number, and the words of a list of
bytes. -/

namespace Sys2Proof.Machine

/-- The number that bytes stand for, most significant first (R67). -/
def bigEndianValue (B : List Byte) : Nat := B.foldl (fun acc b => acc * 256 + b.toNat) 0

@[simp] theorem bigEndianValue_nil : bigEndianValue [] = 0 := rfl

@[simp] theorem bigEndianValue_concat (B : List Byte) (b : Byte) :
    bigEndianValue (B ++ [b]) = bigEndianValue B * 256 + b.toNat := by
  simp [bigEndianValue]

@[simp] theorem bigEndianBytes_length (n x : Nat) : (bigEndianBytes n x).length = n := by
  induction n generalizing x with
  | zero => rfl
  | succ n ih => simp [bigEndianBytes, ih]

/-- The `n` low bytes of a number stand for the number modulo 256^n. -/
theorem bigEndianValue_bigEndianBytes (n x : Nat) : bigEndianValue (bigEndianBytes n x) = x % 256 ^ n := by
  induction n generalizing x with
  | zero => simp [bigEndianBytes, Nat.mod_one]
  | succ n ih =>
    calc bigEndianValue (bigEndianBytes (n + 1) x) = x / 256 % 256 ^ n * 256 + x % 256 := by
          simp [bigEndianBytes, ih]
      _ = x % 256 ^ (n + 1) := by rw [Nat.pow_succ', Nat.mod_mul]; ring

/-- The bytes of a number fall into those of its high part and those of its low part. -/
theorem bigEndianBytes_add (m n x : Nat) :
    bigEndianBytes (m + n) x = bigEndianBytes m (x / 256 ^ n) ++ bigEndianBytes n x := by
  induction n generalizing x with
  | zero => simp [bigEndianBytes]
  | succ n ih =>
    simp [bigEndianBytes, ih, Nat.div_div_eq_div_mul, Nat.pow_succ']

/-- A packed word is the number its eight bytes stand for (R67, R245). -/
theorem packWord_eq_bigEndianValue (B : List Byte) (i : Nat) :
    packWord B i = BitVec.ofNat 64 (bigEndianValue ((List.range 8).map fun k => B.getD (8 * i + k) 0)) := by
  rw [packWord, bigEndianValue, List.foldl_map]

/-- Eight bytes at a word boundary are packed to the word they stand for. -/
theorem packWord_append {pre w : List Byte} {i : Nat} (hpre : pre.length = 8 * i) (hw : w.length = 8) (post : List Byte) :
    packWord (pre ++ w ++ post) i = BitVec.ofNat 64 (bigEndianValue w) := by
  have hbytes : (List.range 8).map (fun k => (pre ++ w ++ post).getD (8 * i + k) 0) = w := by
    apply List.ext_getElem
    · simp [hw]
    · intro k _ hk
      simp [← hpre, List.getElem?_append_right, List.getElem?_append_left hk, hk]
  rw [packWord_eq_bigEndianValue, hbytes]

/-- A word of a block is a word of the whole list of bytes: a block is 16 words (R244). -/
theorem packWord_blockAt (P : List Byte) (k : Nat) {i : Nat} (hi : i < 16) :
    packWord (blockAt P k) i = packWord P (16 * k + i) := by
  have hbyte : ∀ j ∈ List.range 8, (blockAt P k).getD (8 * i + j) 0 = P.getD (8 * (16 * k + i) + j) 0 := by
    intro j hj
    have hj8 : j < 8 := List.mem_range.mp hj
    have hin : 8 * i + j < 128 := by omega
    have hidx : 128 * k + (8 * i + j) = 8 * (16 * k + i) + j := by ring
    simp [blockAt, hin, hidx]
  rw [packWord_eq_bigEndianValue, packWord_eq_bigEndianValue, List.map_congr_left hbyte]

/-- The padded message without its length field (R242). -/
def padBody (m : List Byte) : List Byte := m ++ [0x80] ++ List.replicate (padZeros m.length) 0

/-- The length field is two words, the high one first. -/
theorem pad_eq_padBody (m : List Byte) :
    pad m = padBody m ++ bigEndianBytes 8 (8 * m.length / 2 ^ 64) ++ bigEndianBytes 8 (8 * m.length) := by
  rw [pad, padBody, bigEndianBytes_add 8 8, List.append_assoc (_ ++ _)]
  norm_num

/-- The padding fills the last block up to its words 14 and 15 (R242, R243). -/
theorem padBody_length (m : List Byte) : (padBody m).length = 8 * (16 * (blockCount m.length - 1) + 14) := by
  simp [padBody, padZeros, blockCount]
  omega

/-- Eight bytes of a number, packed, are the number's low 64 bits. -/
theorem ofNat_bigEndianValue_bigEndianBytes (x : Nat) :
    BitVec.ofNat 64 (bigEndianValue (bigEndianBytes 8 x)) = BitVec.ofNat 64 x := by
  apply BitVec.eq_of_toNat_eq
  rw [bigEndianValue_bigEndianBytes, BitVec.toNat_ofNat, BitVec.toNat_ofNat]
  norm_num

/-- Settles O54: the length field starts at word 14 of the last block and its two halves are packed to words 14 and 15; that
holds of longer messages too, the length taken modulo 2^128. -/
theorem lengthFieldLandsInTheLastTwoWords : Obligations.LengthFieldLandsInTheLastTwoWords := by
  intro m _
  have hbody := padBody_length m
  constructor
  · rw [packWord_blockAt _ _ (by decide), pad_eq_padBody, packWord_append hbody (bigEndianBytes_length 8 _),
      ofNat_bigEndianValue_bigEndianBytes]
  · have hhigh : (padBody m ++ bigEndianBytes 8 (8 * m.length / 2 ^ 64)).length =
        8 * (16 * (blockCount m.length - 1) + 15) := by
      rw [List.length_append, hbody, bigEndianBytes_length]
      ring
    rw [packWord_blockAt _ _ (by decide), pad_eq_padBody, ← List.append_nil (_ ++ _ ++ _),
      packWord_append hhigh (bigEndianBytes_length 8 _), ofNat_bigEndianValue_bigEndianBytes]

end Sys2Proof.Machine
end

section
/-! PROOFS. The windows of a platform (R60, R270; log entry 4). -/

namespace Sys2Proof.Machine

theorem baseAddress_succ (k : Nat) :
    baseAddress (k + 1) = baseAddress k + 512 * (1 + Config.windowGap (k + 1)) := rfl

theorem baseAddress_mod (k : Nat) : baseAddress k % 512 = 0 := by
  induction k with
  | zero => exact Nat.mul_mod_right 512 _
  | succ k ih => rw [baseAddress_succ, Nat.add_mul_mod_self_left, ih]

/-- The window of a lower engine ends at or below the BASE of a higher one. -/
theorem baseAddress_add_le {j k : Nat} (hjk : j < k) : baseAddress j + 512 ≤ baseAddress k := by
  induction k, hjk using Nat.le_induction with
  | base => rw [baseAddress_succ]; omega
  | succ k _ ih => rw [baseAddress_succ]; omega

theorem inWindow_iff (k addr : Nat) :
    inWindow k addr = true ↔ baseAddress k ≤ addr ∧ addr < baseAddress k + 512 := by
  simp [inWindow]

theorem inWindow_base_add (k : Nat) (off : BitVec 9) : inWindow k (baseAddress k + off.toNat) = true := by
  rw [inWindow_iff]
  omega

theorem inWindow_disjoint {j k addr : Nat} (hjk : j ≠ k) (hj : inWindow j addr = true) : inWindow k addr = false := by
  rw [← Bool.not_eq_true, inWindow_iff]
  rw [inWindow_iff] at hj
  rcases Nat.lt_or_gt_of_ne hjk with hlt | hgt
  · have := baseAddress_add_le hlt
    omega
  · have := baseAddress_add_le hgt
    omega

/-- The search for the engine ends at `k`: its window holds the address, and no window before it does. -/
theorem locate_base_add {p : Platform} {k : Nat} (hk : k < p.engines.length) (off : BitVec 9) :
    p.locate (baseAddress k + off.toNat) = some (k, off) := by
  have hin := inWindow_base_add k off
  have hfind : (List.range p.engines.length).find? (inWindow · (baseAddress k + off.toNat)) = some k := by
    rw [List.find?_range_eq_some]
    refine ⟨hin, List.mem_range.mpr hk, fun j hj => ?_⟩
    simp [inWindow_disjoint hj.ne' hin]
  simp [Platform.locate, hfind]

/-- Settles O58: alignment by induction over the engines; each window ends below the next, so none shares an address and
the search finds the one engine whose window holds it. -/
theorem addressesReachTheirOwnInstance : Obligations.AddressesReachTheirOwnInstance :=
  ⟨baseAddress_mod, fun _ _ _ hjk hj => inWindow_disjoint hjk hj, fun _ _ off hk => locate_base_add hk off⟩

end Sys2Proof.Machine
end

section
/-! PROOFS. Decode and encode are inverse to each other (R91 to R96): first on the command words, then on the accesses of
format BUS, then on both. -/

namespace Sys2Proof

/-! ### Command words -/

@[simp] theorem cmdOp_setWidth (op : BitVec 4) : cmdOp (op.setWidth 64) = op := by
  revert op; decide

@[simp] theorem cmdRsvd_setWidth (op : BitVec 4) : cmdRsvd (op.setWidth 64) = 0 := by
  revert op; decide

/-- A command word is refused for its RSVD bits alone (R95). -/
theorem decodeCommand_eq_error_iff {v : Word} {e : Reject} :
    decodeCommand v = .error e ↔ cmdRsvd v ≠ 0 ∧ e = .rsvdNonzero := by
  unfold decodeCommand
  split_ifs with hrsvd
  · constructor
    · rintro ⟨⟩
      exact ⟨hrsvd, rfl⟩
    · rintro ⟨-, rfl⟩
      rfl
  all_goals simp [not_not.mp hrsvd]

theorem cmdRsvd_of_decodeCommand {v : Word} {i : Instr} (h : decodeCommand v = .ok i) : cmdRsvd v = 0 := by
  by_contra hrsvd
  cases (decodeCommand_eq_error_iff.mpr ⟨hrsvd, rfl⟩).symm.trans h

/-- What a command word decodes to is well formed and is sent as that word: an accepted word is its OP field, and each OP has
its row (R92, R93). -/
theorem encode_of_decodeCommand {v : Word} {i : Instr} (h : decodeCommand v = .ok i) :
    encode i = .command v ∧ i.wellFormed = true := by
  obtain ⟨op, rfl⟩ : ∃ op : BitVec 4, v = op.setWidth 64 :=
    ⟨cmdOp v, Machine.word_of_fields (cmdRsvd_of_decodeCommand h)⟩
  simp only [decodeCommand, cmdRsvd_setWidth, cmdOp_setWidth, ne_eq, not_true_eq_false, if_false] at h
  split_ifs at h with h0 h1 h2 h3 h4 h5 h67 <;> cases h
  iterate 6 (· subst_vars; exact ⟨rfl, rfl⟩)
  · exact ⟨rfl, by simpa [Instr.wellFormed] using h67⟩
  · refine ⟨rfl, ?_⟩
    simp only [Instr.wellFormed, decide_eq_true_eq]
    bv_omega

/-- The OPs of the two reserved ranges decode to their rows (R93). -/
theorem decodeCommand_reservedCmd67 : ∀ op : BitVec 4, (Instr.reservedCmd67 op).wellFormed = true →
    decodeCommand (op.setWidth 64) = .ok (.reservedCmd67 op) := by
  decide

theorem decodeCommand_reservedCmd8F : ∀ op : BitVec 4, (Instr.reservedCmd8F op).wellFormed = true →
    decodeCommand (op.setWidth 64) = .ok (.reservedCmd8F op) := by
  decide

/-! ### Accesses of format BUS -/

theorem encode_readInstr (r : Reg) : encode (readInstr r) = .read r.offset 8 := by
  cases r <;> rfl

theorem encode_writeInstr (wdata : Word) (r : Reg) : encode (writeInstr wdata r) = .write r.offset 8 wdata := by
  cases r <;> rfl

theorem wellFormed_readInstr (r : Reg) : (readInstr r).wellFormed = true := by
  cases r <;> rfl

theorem wellFormed_writeInstr (wdata : Word) (r : Reg) : (writeInstr wdata r).wellFormed = true := by
  cases r <;> rfl

theorem decode_read_of_busTarget {off : BitVec 9} {n : Nat} {r : Reg} (h : busTarget off n = .ok r) :
    decode (.read off n) = .ok (readInstr r) := by
  simp [decode, h]

theorem decode_write_of_busTarget {off : BitVec 9} {n : Nat} {r : Reg} (h : busTarget off n = .ok r) (wdata : Word) :
    decode (.write off n wdata) = .ok (writeInstr wdata r) := by
  simp [decode, h]

theorem decode_read_offset (r : Reg) : decode (.read r.offset 8) = .ok (readInstr r) :=
  decode_read_of_busTarget (busTarget_offset r)

theorem decode_write_offset (wdata : Word) (r : Reg) : decode (.write r.offset 8 wdata) = .ok (writeInstr wdata r) :=
  decode_write_of_busTarget (busTarget_offset r) wdata

/-! ### Both formats -/

theorem decode_encode {i : Instr} (hi : i.wellFormed = true) : decode (encode i) = .ok i := by
  cases i with
  | nop | init | compress | zeroize | clearStatus | reservedCmd5 => rfl
  | reservedCmd67 op => exact decodeCommand_reservedCmd67 op hi
  | reservedCmd8F op => exact decodeCommand_reservedCmd8F op hi
  | rd64Ctrl => exact decode_read_offset .ctrl
  | rd64Status => exact decode_read_offset .status
  | rd64Msg i => exact decode_read_offset (.msg i)
  | rd64H j => exact decode_read_offset (.h j)
  | wr64Ctrl wdata => exact decode_write_offset wdata .ctrl
  | wr64Status wdata => exact decode_write_offset wdata .status
  | wr64Msg i wdata => exact decode_write_offset wdata (.msg i)
  | wr64H j wdata => exact decode_write_offset wdata (.h j)

theorem encode_of_decode {tx : Transaction} {i : Instr} (h : decode tx = .ok i) :
    encode i = tx ∧ i.wellFormed = true := by
  cases tx with
  | read off n =>
    cases htarget : busTarget off n with
    | error e => simp [decode, htarget] at h
    | ok r =>
      obtain ⟨rfl, rfl⟩ := busTarget_eq_ok htarget
      cases (decode_read_of_busTarget htarget).symm.trans h
      exact ⟨encode_readInstr r, wellFormed_readInstr r⟩
  | write off n wdata =>
    cases htarget : busTarget off n with
    | error e => simp [decode, htarget] at h
    | ok r =>
      obtain ⟨rfl, rfl⟩ := busTarget_eq_ok htarget
      cases (decode_write_of_busTarget htarget wdata).symm.trans h
      exact ⟨encode_writeInstr wdata r, wellFormed_writeInstr wdata r⟩
  | command v => exact encode_of_decodeCommand h

/-- Settles O1: each row's transaction is decoded by the register it stands at, or by its OP. -/
theorem decodeOfEncodeIsTheInstruction : Obligations.DecodeOfEncodeIsTheInstruction :=
  fun _ hi => decode_encode hi

/-- Settles O2: an accepted access is the 8-byte one at its register's own offset, and an accepted word is its OP field. -/
theorem decodedTransactionIsItsEncoding : Obligations.DecodedTransactionIsItsEncoding :=
  fun _ _ h => encode_of_decode h

end Sys2Proof
end

section
/-! PROOFS. The opcode table's masks and matches against the decoder (R100). -/

namespace Sys2Proof

/-! ### Accepted transactions: their own row and no other -/

/-- The lemmas of `Laws.OwnRow`, one per instruction, in one. -/
theorem rowsOf_encode (i : Instr) (hi : i.wellFormed = true) : Laws.OwnRow.rowsOf (encode i) = [i.mnemonic] := by
  cases i with
  | nop => exact Laws.OwnRow.nop hi
  | init => exact Laws.OwnRow.init hi
  | compress => exact Laws.OwnRow.compress hi
  | zeroize => exact Laws.OwnRow.zeroize hi
  | clearStatus => exact Laws.OwnRow.clearStatus hi
  | reservedCmd5 => exact Laws.OwnRow.reservedCmd5 hi
  | reservedCmd67 op => exact Laws.OwnRow.reservedCmd67 op hi
  | reservedCmd8F op => exact Laws.OwnRow.reservedCmd8F op hi
  | rd64Ctrl => exact Laws.OwnRow.rd64Ctrl hi
  | rd64Status => exact Laws.OwnRow.rd64Status hi
  | rd64Msg i => exact Laws.OwnRow.rd64Msg i hi
  | rd64H j => exact Laws.OwnRow.rd64H j hi
  | wr64Ctrl wdata => exact Laws.OwnRow.wr64Ctrl wdata hi
  | wr64Status wdata => exact Laws.OwnRow.wr64Status wdata hi
  | wr64Msg i wdata => exact Laws.OwnRow.wr64Msg i wdata hi
  | wr64H j wdata => exact Laws.OwnRow.wr64H j wdata hi

/-- A decoded transaction is the encoding of its instruction, so the rows that apply to it are that instruction's. -/
theorem rowsOf_of_decode {tx : Transaction} {i : Instr} (h : decode tx = .ok i) :
    Laws.OwnRow.rowsOf tx = [i.mnemonic] := by
  obtain ⟨rfl, hwf⟩ := encode_of_decode h
  exact rowsOf_encode i hwf

theorem rowsOf_of_busKey {tx : Transaction} {key : BitVec 14} (hkey : busKey tx = some key) :
    Laws.OwnRow.rowsOf tx = (busRows.filter (·.applies key)).map BusRow.mnemonic := by
  cases tx with
  | read off n => simp only [Laws.OwnRow.rowsOf, hkey]
  | write off n wdata => simp only [Laws.OwnRow.rowsOf, hkey]
  | command v => cases hkey

/-! ### Transactions to which a row applies -/

/-- Where a mask has every bit of a field set, a key that matches holds the field of the pattern. -/
theorem extractLsb'_eq_of_masked {w start len : Nat} {x mask pattern : BitVec w} (hx : x &&& mask = pattern)
    (hmask : mask.extractLsb' start len = BitVec.allOnes len) :
    x.extractLsb' start len = pattern.extractLsb' start len := by
  rw [← hx, BitVec.extractLsb'_and, hmask, BitVec.and_allOnes]

/-- Every CMD row looks at all bits of RSVD and wants them 0 (R93). -/
theorem cmdRows_rsvd : ∀ row ∈ cmdRows, cmdRsvd row.mask = BitVec.allOnes 60 ∧ cmdRsvd row.pattern = 0 := by
  decide

theorem cmdRsvd_of_applies {row : CmdRow} {v : Word} (hrow : row ∈ cmdRows) (h : row.applies v = true) :
    cmdRsvd v = 0 := by
  obtain ⟨hmask, hpattern⟩ := cmdRows_rsvd row hrow
  exact (extractLsb'_eq_of_masked (beq_iff_eq.mp h) hmask).trans hpattern

/-- Every BUS row looks at all bits of the size and at the low three of the offset, and wants the size 8 and the offset
aligned (R62, R63). -/
theorem busRows_size_align : ∀ row ∈ busRows,
    (row.mask.extractLsb' 0 4 = BitVec.allOnes 4 ∧ row.pattern.extractLsb' 0 4 = 8) ∧
    (row.mask.extractLsb' 4 3 = BitVec.allOnes 3 ∧ row.pattern.extractLsb' 4 3 = 0) := by
  decide

theorem extractLsb'_key_size (dir : BitVec 1) (off : BitVec 9) (size : BitVec 4) :
    (dir ++ off ++ size).extractLsb' 0 4 = size :=
  BitVec.extractLsb'_append_eq_right

theorem extractLsb'_key_align (dir : BitVec 1) (off : BitVec 9) (size : BitVec 4) :
    (dir ++ off ++ size).extractLsb' 4 3 = off.extractLsb' 0 3 := by
  rw [BitVec.extractLsb'_append_eq_of_le (by decide), BitVec.extractLsb'_append_eq_of_add_le (by decide)]

theorem aligned_eq_append {off : BitVec 9} (haligned : off.extractLsb' 0 3 = 0) : off = off.extractLsb' 3 6 ++ 0#3 := by
  calc off = off.extractLsb' 3 6 ++ off.extractLsb' 0 3 :=
        (BitVec.extractLsb'_append_extractLsb' (w := 6) (len := 3)).symm
    _ = off.extractLsb' 3 6 ++ 0#3 := by rw [haligned]; rfl

/-- At the 64 aligned offsets a BUS row of either direction applies at registers only. -/
theorem regAt_isSome_of_applies : ∀ (dir : BitVec 1) (slot : BitVec 6), ∀ row ∈ busRows,
    row.applies (dir ++ (slot ++ 0#3) ++ 8#4) = true → (regAt (slot ++ 0#3)).isSome = true := by
  decide

/-- An access to which a BUS row applies names a register. -/
theorem busTarget_of_applies {row : BusRow} {dir : BitVec 1} {off : BitVec 9} {n : Nat} (hn : n < 16)
    (hrow : row ∈ busRows) (h : row.applies (dir ++ off ++ BitVec.ofNat 4 n) = true) : ∃ r, busTarget off n = .ok r := by
  obtain ⟨⟨hmask_size, hpattern_size⟩, hmask_align, hpattern_align⟩ := busRows_size_align row hrow
  have hkey := beq_iff_eq.mp h
  have hsize : BitVec.ofNat 4 n = 8 := by
    rw [← extractLsb'_key_size dir off (BitVec.ofNat 4 n), extractLsb'_eq_of_masked hkey hmask_size, hpattern_size]
  have haligned : off.extractLsb' 0 3 = 0 := by
    rw [← extractLsb'_key_align dir off (BitVec.ofNat 4 n), extractLsb'_eq_of_masked hkey hmask_align, hpattern_align]
  have hn8 : n = 8 := by
    simpa [Nat.mod_eq_of_lt hn] using congrArg BitVec.toNat hsize
  rw [hsize, aligned_eq_append haligned] at h
  obtain ⟨r, hr⟩ := Option.isSome_iff_exists.mp (regAt_isSome_of_applies dir _ row hrow h)
  rw [← aligned_eq_append haligned] at hr
  exact ⟨r, by simp [busTarget, hn8, haligned, hr]⟩

/-- No BUS row applies to an access that is refused. -/
theorem busRows_of_decode_error {tx : Transaction} {key : BitVec 14} {e : Reject} (hkey : busKey tx = some key)
    (he : decode tx = .error e) : busRows.filter (·.applies key) = [] := by
  rw [List.filter_eq_nil_iff]
  intro row hrow happlies
  cases tx with
  | read off n =>
    obtain ⟨hn, ⟨⟩⟩ := Option.ite_none_right_eq_some.mp hkey
    obtain ⟨r, hr⟩ := busTarget_of_applies hn hrow happlies
    cases (decode_read_of_busTarget hr).symm.trans he
  | write off n wdata =>
    obtain ⟨hn, ⟨⟩⟩ := Option.ite_none_right_eq_some.mp hkey
    obtain ⟨r, hr⟩ := busTarget_of_applies hn hrow happlies
    cases (decode_write_of_busTarget hr wdata).symm.trans he
  | command v => cases hkey

/-- No CMD row applies to a word that is refused. -/
theorem cmdRows_of_decode_error {v : Word} {e : Reject} (he : decode (.command v) = .error e) :
    cmdRows.filter (·.applies v) = [] := by
  rw [List.filter_eq_nil_iff]
  intro row hrow happlies
  obtain ⟨hrsvd, -⟩ := decodeCommand_eq_error_iff.mp he
  exact hrsvd (cmdRsvd_of_applies hrow happlies)

/-- A size that has no key is refused, as every size but 8 is (R63). -/
theorem busTarget_badSize {n : Nat} (hn : n ≠ 8) (off : BitVec 9) : busTarget off n = .error .badSize := by
  simp [busTarget, hn]

/-- Settles O4: a decoded transaction is the encoding of its instruction, and so has that instruction's row alone; one to
which any row applies names a register, or has RSVD = 0, and is not refused. -/
theorem decoderAgreesWithOpcodeTable : Obligations.DecoderAgreesWithOpcodeTable := by
  refine ⟨fun tx key hkey => ⟨fun i hi => ?_, fun e he => busRows_of_decode_error hkey he⟩, fun off n wdata hn => ?_,
    fun v i hi => rowsOf_of_decode hi, fun v e he => cmdRows_of_decode_error he⟩
  · rw [← rowsOf_of_busKey hkey, rowsOf_of_decode hi]
  · have htarget := busTarget_badSize (show n ≠ 8 by omega) off
    simp [decode, htarget]

end Sys2Proof
end

section
/-! PROOFS. A command word and the write of it to CTRL (R90, R92). -/

namespace Sys2Proof.Machine

theorem hostStep_write_ctrl (v : Word) (s : State) : hostStep (.write 0x000 8 v) s = .next (submitCommand v s) :=
  hostStep_ok (decode_write_offset v .ctrl) s

theorem submitCommand_illegal {v : Word} (hv : commandOf v = none) (s : State) : submitCommand v s = refuse .cmd s := by
  simp [submitCommand, hv]

/-- A word that carries no command is refused with ERR_CMD, be it one of the reserved rows or no row at all (R95, R226). -/
theorem hostStep_command_illegal {v : Word} (hv : commandOf v = none) (s : State) :
    hostStep (.command v) s = .next (refuse .cmd s) := by
  cases hd : decodeCommand v with
  | error e =>
    obtain ⟨-, rfl⟩ := decodeCommand_eq_error_iff.mp hd
    exact hostStep_error (tx := .command v) hd s
  | ok i =>
    rw [hostStep_ok (tx := .command v) hd]
    obtain ⟨henc, -⟩ := encode_of_decodeCommand hd
    cases i <;> cases henc
    case reservedCmd5.refl | reservedCmd67.refl | reservedCmd8F.refl => rfl
    all_goals cases hv

/-- A word that carries a command performs it (R90, R93). -/
theorem hostStep_command_legal {v : Word} {c : Command} (hv : commandOf v = some c) (s : State) :
    hostStep (.command v) s = .next (performCommand s c) := by
  obtain rfl := commandOf_eq_some hv
  obtain ⟨i, hi, hc⟩ := decodeCommand_word c
  rw [hostStep_ok (tx := .command c.word) hi, exec_of_command hc]

/-- Settles O9: the word carries a command, which both perform, or it carries none and both are refused with ERR_CMD. -/
theorem commandWordIsAWriteToCtrl : Obligations.CommandWordIsAWriteToCtrl := by
  intro v s
  rw [hostStep_write_ctrl]
  cases hv : commandOf v with
  | none => rw [hostStep_command_illegal hv, submitCommand_illegal hv]
  | some c => rw [hostStep_command_legal hv, submitCommand, hv]

end Sys2Proof.Machine
end

section
/-! PROOFS. Words written out from the spec's encodings, in the frame of log entry 3 (R93, R94, R100). -/

namespace Sys2Proof

/-- A word of 64 bits is a command word (R92). -/
theorem decodeTableWord_command (v : Word) : decodeTableWord 64 v.toNat = (decodeCommand v).toOption := by
  simp [decodeTableWord, transactionOfBits, decode, v.isLt]

/-- Settles O3: each word is laid in the frame of log entry 3 and decoded. -/
theorem sampleWordsDecode : Obligations.SampleWordsDecode := by
  refine ⟨?_, ?_, ?_, ?_, ?_, ?_, ?_, ?_⟩
  · exact decodeTableWord_command 0x2
  · exact decodeTableWord_command 0x6
  · exact decodeTableWord_command 0x9
  · exact decodeTableWord_command 0x10
  all_goals decide

end Sys2Proof
end

section
/-! PROOFS. The datapath operations bit by bit (R125 to R132). -/

namespace Sys2Proof.Machine

/-! ### Shift and rotation -/

/-- Bit i of SHR^n is bit i + n, and 0 where that lies past bit 63 (R125). -/
theorem getLsbD_shr (n : Nat) (x : Word) (i : Nat) :
    (shr n x).getLsbD i = (decide (i + n < 64) && x.getLsbD (i + n)) := by
  rw [shr, BitVec.getLsbD_ushiftRight, Nat.add_comm n i]
  by_cases h : i + n < 64
  · simp [h]
  · simp [h, BitVec.getLsbD_of_ge x (i + n) (by omega)]

/-- In its domain ROTR is the bit vectors' own right rotation, which is defined by the same shifts. -/
theorem rotr_eq_rotateRight {n : Nat} (hn : n < 64) (x : Word) : rotr n x = x.rotateRight n :=
  (BitVec.rotateRight_eq_rotateRightAux_of_lt hn).symm

/-- Bit i of ROTR^n is bit (i + n) mod 64 (R126): either i + n is a bit of the word, or it wraps around once. -/
theorem getLsbD_rotr {n i : Nat} (hn : n < 64) (hi : i < 64) (x : Word) :
    (rotr n x).getLsbD i = x.getLsbD ((i + n) % 64) := by
  rw [rotr_eq_rotateRight hn, BitVec.getLsbD_rotateRight, Nat.mod_eq_of_lt hn]
  by_cases h : i < 64 - n
  · have hsrc : (i + n) % 64 = n + i := by omega
    simp [h, hsrc]
  · have hsrc : (i + n) % 64 = i - (64 - n) := by omega
    simp [h, hi, hsrc]

/-- The formula of R126: the left shift is the product with 2^(64-n), reduced to 64 bits. -/
theorem rotr_eq_shr_or_mul (n : Nat) (x : Word) :
    rotr n x = shr n x ||| BitVec.ofNat 64 (x.toNat * 2 ^ (64 - n)) := by
  have hshift : x <<< (64 - n) = BitVec.ofNat 64 (x.toNat * 2 ^ (64 - n)) := by
    apply BitVec.eq_of_toNat_eq
    rw [BitVec.toNat_shiftLeft, BitVec.toNat_ofNat, Nat.shiftLeft_eq]
  rw [rotr, hshift]

/-- Rotations compose, their amounts adding modulo 64 (R126); a sum of 64 is the rotation by 0. -/
theorem rotr_rotr {n m : Nat} (hn : n < 64) (hm : m < 64) (x : Word) :
    rotr n (rotr m x) = rotr ((n + m) % 64) x := by
  refine BitVec.eq_of_getLsbD_eq fun i hi => ?_
  have hsrc : ((i + n) % 64 + m) % 64 = (i + (n + m) % 64) % 64 := by omega
  rw [getLsbD_rotr hn hi, getLsbD_rotr hm (Nat.mod_lt _ (by decide)),
    getLsbD_rotr (Nat.mod_lt _ (by decide)) hi, hsrc]

/-- A rotation has no effect on a word whose 64 bits are equal (R126). -/
theorem rotr_of_forall_getLsbD_eq {n : Nat} (hn : n < 64) {x : Word} {b : Bool}
    (hx : ∀ i < 64, x.getLsbD i = b) : rotr n x = x := by
  refine BitVec.eq_of_getLsbD_eq fun i hi => ?_
  rw [getLsbD_rotr hn hi, hx _ (Nat.mod_lt _ (by decide)), hx i hi]

/-- Settles O41: the bit law, the formula, and what follows from the bit law for compositions and for the two fixed words. -/
theorem rotationMovesEveryBit : Obligations.RotationMovesEveryBit := by
  refine ⟨fun n x i _ hn hi => getLsbD_rotr hn hi x, fun n x _ _ => rotr_eq_shr_or_mul n x,
    fun n m x _ hn _ hm => rotr_rotr hn hm x, fun n _ hn => ⟨?_, ?_⟩⟩
  · exact rotr_of_forall_getLsbD_eq hn (b := false) fun i _ => BitVec.getLsbD_zero
  · exact rotr_of_forall_getLsbD_eq hn (b := true) (by decide)

/-! ### The sigma functions -/

/-- The XOR of three rotations, the form of Σ0 and Σ1 (R129, R130), bit by bit. -/
theorem getLsbD_xor_three_rotr {n m k i : Nat} (hn : n < 64) (hm : m < 64) (hk : k < 64) (hi : i < 64) (x : Word) :
    (rotr n x ^^^ rotr m x ^^^ rotr k x).getLsbD i =
      ((x.getLsbD ((i + n) % 64) ^^ x.getLsbD ((i + m) % 64)) ^^ x.getLsbD ((i + k) % 64)) := by
  rw [BitVec.getLsbD_xor, BitVec.getLsbD_xor, getLsbD_rotr hn hi, getLsbD_rotr hm hi, getLsbD_rotr hk hi]

/-- The XOR of two rotations and a shift, the form of σ0 and σ1 (R131, R132), bit by bit. -/
theorem getLsbD_xor_two_rotr_shr {n m i : Nat} (hn : n < 64) (hm : m < 64) (hi : i < 64) (k : Nat) (x : Word) :
    (rotr n x ^^^ rotr m x ^^^ shr k x).getLsbD i =
      ((x.getLsbD ((i + n) % 64) ^^ x.getLsbD ((i + m) % 64)) ^^ (decide (i + k < 64) && x.getLsbD (i + k))) := by
  rw [BitVec.getLsbD_xor, BitVec.getLsbD_xor, getLsbD_rotr hn hi, getLsbD_rotr hm hi, getLsbD_shr]

/-- Settles O43: Σ0 and Σ1 are of the one form, σ0 and σ1 of the other, each with its own amounts. -/
theorem sigmaFunctionsBitByBit : Obligations.SigmaFunctionsBitByBit := by
  intro x i hi
  refine ⟨?_, ?_, ?_, ?_⟩
  · exact getLsbD_xor_three_rotr (by decide) (by decide) (by decide) hi x
  · exact getLsbD_xor_three_rotr (by decide) (by decide) (by decide) hi x
  · exact getLsbD_xor_two_rotr_shr (by decide) (by decide) hi 7 x
  · exact getLsbD_xor_two_rotr_shr (by decide) (by decide) hi 6 x

/-! ### Choice and majority -/

/-- Ch takes bit i of y where bit i of x is 1 and of z where it is 0 (R127); past bit 63, where NOT
gives 0, z has no bit to take. -/
theorem getLsbD_ch (x y z : Word) (i : Nat) :
    (ch x y z).getLsbD i = if x.getLsbD i then y.getLsbD i else z.getLsbD i := by
  have hz : (decide (i < 64) && z.getLsbD i) = z.getLsbD i := by
    by_cases hi : i < 64
    · simp [hi]
    · simp [BitVec.getLsbD_of_ge z i (by omega)]
  simp only [ch, BitVec.getLsbD_xor, BitVec.getLsbD_and, BitVec.getLsbD_not]
  cases x.getLsbD i with
  | false => simpa using hz
  | true => simp

/-- The XOR of the three pairwise conjunctions of three bits is their majority. -/
theorem xor_and_pairs_eq_majority (a b c : Bool) :
    ((a && b) ^^ (a && c) ^^ (b && c)) = decide (2 ≤ a.toNat + b.toNat + c.toNat) := by
  decide +revert

/-- Bit i of Maj is 1 where at least two of the three bits are 1 (R128). -/
theorem getLsbD_maj (x y z : Word) (i : Nat) :
    (maj x y z).getLsbD i = decide (2 ≤ (x.getLsbD i).toNat + (y.getLsbD i).toNat + (z.getLsbD i).toNat) := by
  simp only [maj, BitVec.getLsbD_xor, BitVec.getLsbD_and]
  exact xor_and_pairs_eq_majority _ _ _

/-- Settles O42. -/
theorem chAndMajBitByBit : Obligations.ChAndMajBitByBit :=
  fun x y z i => ⟨getLsbD_ch x y z i, getLsbD_maj x y z i⟩

end Sys2Proof.Machine
end

section
/-! PROOFS. The message schedule (R150, R151): every word of it is fixed when it is added, so the law of the expansion that
adds it is a law of the whole schedule. -/

namespace Sys2Proof.Machine

/-- A word that stands in an expansion stands unchanged in every longer one. -/
theorem expandSchedule_get_of_le (block : Vector Word 16) {k n t : Nat} (hkn : k ≤ n) (ht : t < 16 + k) :
    (expandSchedule block n)[t] = (expandSchedule block k)[t] := by
  induction n, hkn using Nat.le_induction with
  | base => rfl
  | succ n hkn ih => rw [expandSchedule_get_succ block n t (by omega), ih]

/-- Any expansion long enough to hold W[t] has the schedule's value there. -/
theorem schedule_get_eq_expandSchedule (block : Vector Word 16) {k t : Nat} (hk : k ≤ 64) (ht : t < 16 + k) :
    (schedule block)[t] = (expandSchedule block k)[t] :=
  expandSchedule_get_of_le block hk ht

/-- The word that the step from `k` to `k + 1` adds, W[16+k] (R151). -/
theorem expandSchedule_succ_last (block : Vector Word 16) (k : Nat) :
    (expandSchedule block (k + 1))[16 + k] =
      smallSigma1 (expandSchedule block k)[14 + k] + (expandSchedule block k)[9 + k] +
        smallSigma0 (expandSchedule block k)[1 + k] + (expandSchedule block k)[k] := by
  simp [expandSchedule_succ]

/-- The first 16 words of the schedule are the block (R150). -/
theorem schedule_get_block (block : Vector Word 16) {t : Nat} (ht : t < 16) : (schedule block)[t] = block[t] :=
  schedule_get_eq_expandSchedule block (Nat.zero_le 64) ht

/-- The recurrence (R151) at W[16+k], with the earlier words counted from the front. -/
theorem schedule_get_add (block : Vector Word 16) {k : Nat} (hk : k < 64) :
    (schedule block)[16 + k] =
      smallSigma1 (schedule block)[14 + k] + (schedule block)[9 + k] +
        smallSigma0 (schedule block)[1 + k] + (schedule block)[k] := by
  have hword {t : Nat} (ht : t < 16 + k) : (schedule block)[t] = (expandSchedule block k)[t] :=
    schedule_get_eq_expandSchedule block (Nat.le_of_lt hk) ht
  rw [schedule_get_eq_expandSchedule block (k := k + 1) hk (by omega), expandSchedule_succ_last,
    hword (t := 14 + k) (by omega), hword (t := 9 + k) (by omega), hword (t := 1 + k) (by omega),
    hword (t := k) (by omega)]

/-- The recurrence as R151 writes it, with the earlier words counted back from W[t]. -/
theorem schedule_recurrence (block : Vector Word 16) {t : Nat} (ht : t < 80) (h16 : 16 ≤ t) :
    (schedule block)[t] = smallSigma1 (schedule block)[t - 2] + (schedule block)[t - 7] +
      smallSigma0 (schedule block)[t - 15] + (schedule block)[t - 16] := by
  obtain ⟨k, rfl⟩ := Nat.exists_eq_add_of_le h16
  have h2 : 16 + k - 2 = 14 + k := by omega
  have h7 : 16 + k - 7 = 9 + k := by omega
  have h15 : 16 + k - 15 = 1 + k := by omega
  have h0 : 16 + k - 16 = k := by omega
  simp only [h2, h7, h15, h0]
  exact schedule_get_add block (by omega)

@[simp] theorem smallSigma0_zero : smallSigma0 0 = 0 := by decide

@[simp] theorem smallSigma1_zero : smallSigma1 0 = 0 := by decide

/-- The schedule of a block of zeros is zero, as the recurrence keeps the words zero. -/
theorem schedule_replicate_zero {t : Nat} (ht : t < 80) : (schedule (Vector.replicate 16 0))[t] = 0 := by
  induction t using Nat.strong_induction_on with
  | h t ih =>
    by_cases h16 : t < 16
    · rw [schedule_get_block _ h16, Vector.getElem_replicate]
    · rw [schedule_recurrence _ ht (by omega), ih (t - 2) (by omega), ih (t - 7) (by omega),
        ih (t - 15) (by omega), ih (t - 16) (by omega), smallSigma1_zero, smallSigma0_zero]
      rfl

/-- Settles O44: the block, the recurrence, and the block of zeros. -/
theorem scheduleFollowsTheRecurrence : Obligations.ScheduleFollowsTheRecurrence :=
  ⟨fun M t => schedule_get_block M t.isLt, fun M _ ht h16 => schedule_recurrence M ht h16,
    fun t => schedule_replicate_zero t.isLt⟩

end Sys2Proof.Machine
end

section
/-! PROOFS. The rounds are a permutation (R168, R169): each round has the inverse the spec gives, and the 80 are composed. -/

namespace Sys2Proof.Machine

/-- The addends that follow h in T1 are taken off again. -/
theorem add_addends_sub_addends (h s c k w : Word) : h + s + c + k + w - s - c - k - w = h := by abel

/-- The addends taken off T1 are put back, and T1 stands there again. -/
theorem sub_addends_add_addends (t1 s c k w : Word) : t1 - s - c - k - w + s + c + k + w = t1 := by abel

/-- The round leaves b, c, d, f, g, h of the new state equal to a, b, c, e, f, g of the old one, so T2 is known again; the new
a less T2 is T1, and T1 gives back d and h. -/
theorem inverseRound_round (k w : Word) (v : Working) : inverseRound k w (round k w v) = v := by
  simp only [inverseRound, round, add_sub_cancel_right, add_addends_sub_addends]

/-- The h that the inverse chooses is the one whose T1 is the new a less T2, so the new a and e come out as they were. -/
theorem round_inverseRound (k w : Word) (v : Working) : round k w (inverseRound k w v) = v := by
  simp only [inverseRound, round, sub_add_cancel, sub_addends_add_addends]

/-- A round with its own constant and schedule word is a bijection (R169). -/
theorem roundAt_bijective (W : Vector Word 80) (t : Fin 80) : Function.Bijective (roundAt W t) :=
  Function.bijective_iff_has_inverse.mpr
    ⟨inverseRound (roundConstant t) W[t], inverseRound_round _ _, round_inverseRound _ _⟩

/-- The first `n` rounds are a bijection, each round being composed with those before it. -/
theorem rounds_bijective (W : Vector Word 80) {n : Nat} (hn : n ≤ 80) :
    Function.Bijective fun v => rounds W v n hn := by
  induction n with
  | zero => exact Function.bijective_id
  | succ n ih => exact (roundAt_bijective W ⟨n, hn⟩).comp (ih (Nat.le_of_succ_le hn))

/-- Settles O45: the two compositions with the inverse, and the induction over the rounds. -/
theorem roundsArePermutations : Obligations.RoundsArePermutations :=
  ⟨fun k w v => ⟨inverseRound_round k w v, round_inverseRound k w v⟩, fun W => rounds_bijective W (Nat.le_refl 80)⟩

end Sys2Proof.Machine
end

section
/-! PROOFS. The constants K and IV are root bits of the first primes (R165, R185). The primes are tied to `Nat.nth Nat.Prime`
by a sieve: the numbers below 410 that pass trial division are the first 80 primes in order. What is left of each constant is
a comparison of integers. -/

namespace Sys2Proof.Machine

/-! ### The first 80 primes -/

/-- What stands at place `k` among the numbers below `n` that have `p` is the `k`-th number that has it. -/
theorem nth_of_getElem?_filter_range {p : Nat → Prop} [DecidablePred p] {n k q : Nat}
    (h : ((List.range n).filter p)[k]? = some q) : Nat.nth p k = q := by
  induction n with
  | zero => simp at h
  | succ n ih =>
    have hcount : ((List.range n).filter p).length = Nat.count p n := List.countP_eq_length_filter.symm
    rw [List.range_succ, List.filter_append] at h
    obtain hk | hk := lt_or_ge k ((List.range n).filter p).length
    · exact ih (by rwa [List.getElem?_append_left hk] at h)
    · rw [List.getElem?_append_right hk, hcount] at h
      by_cases hp : p n
      · obtain ⟨hplace, rfl⟩ : k - Nat.count p n = 0 ∧ n = q := by
          simpa [hp, List.getElem?_singleton] using h
        have hkn : k = Nat.count p n := by omega
        rw [hkn, Nat.nth_count hp]
      · simp [hp] at h

/-- Trial division by the numbers below `b` decides whether a number below `b²` is prime. -/
theorem prime_iff_not_dvd_of_lt_mul_self {n b : Nat} (hn : n < b * b) :
    n.Prime ↔ 2 ≤ n ∧ ∀ m < b, 2 ≤ m → m < n → ¬ m ∣ n := by
  rw [Nat.prime_def_le_sqrt]
  have hsqrt : n.sqrt < b := Nat.sqrt_lt.mpr hn
  refine and_congr_right fun h2 => ⟨fun hdiv m _ hm2 hmn hdvd => ?_, fun hdiv m hm2 hle => ?_⟩
  · have hp : n.Prime := Nat.prime_def_le_sqrt.mpr ⟨h2, hdiv⟩
    exact hmn.ne ((Nat.dvd_prime_two_le hp hm2).mp hdvd)
  · have hlt : n.sqrt < n := Nat.sqrt_lt_self h2
    exact hdiv m (by omega) hm2 (by omega)

/-- The first 80 primes, from 2 to 409. -/
def firstPrimes : Vector Nat 80 :=
  #v[2, 3, 5, 7, 11, 13, 17, 19, 23, 29, 31, 37, 41, 43, 47, 53, 59, 61, 67, 71,
     73, 79, 83, 89, 97, 101, 103, 107, 109, 113, 127, 131, 137, 139, 149, 151, 157, 163, 167, 173,
     179, 181, 191, 193, 197, 199, 211, 223, 227, 229, 233, 239, 241, 251, 257, 263, 269, 271, 277, 281,
     283, 293, 307, 311, 313, 317, 331, 337, 347, 349, 353, 359, 367, 373, 379, 383, 389, 397, 401, 409]

/-- The numbers below 410 that no smaller number below 21 divides. -/
theorem trialDivision_eq_firstPrimes :
    (List.range 410).filter (fun n => 2 ≤ n ∧ ∀ m < 21, 2 ≤ m → m < n → ¬ m ∣ n) = firstPrimes.toList := by
  decide

/-- The primes below 410, since 410 is less than 21². -/
theorem filter_prime_range_eq_firstPrimes : (List.range 410).filter (fun n => n.Prime) = firstPrimes.toList := by
  rw [← trialDivision_eq_firstPrimes]
  refine List.filter_congr fun n hn => decide_eq_decide.mpr ?_
  have hlt : n < 410 := List.mem_range.mp hn
  exact prime_iff_not_dvd_of_lt_mul_self (by omega)

/-- The `k`-th prime, counted from 0, for `k` below 80. -/
theorem nth_prime_eq_firstPrimes {k : Nat} (hk : k < 80) : Nat.nth Nat.Prime k = firstPrimes[k] :=
  nth_of_getElem?_filter_range (n := 410) (by simp [filter_prime_range_eq_firstPrimes, hk])

/-! ### The roots -/

/-- K[t] against the cube root of its prime (R165). The integer part `c` is less than 8, as the primes are less than 8³. -/
theorem roundConstant_cube_root : ∀ t : Fin 80, ∃ c < 8,
    (c * 2 ^ 64 + (roundConstant t).toNat) ^ 3 ≤ firstPrimes[t.val] * 2 ^ 192 ∧
    firstPrimes[t.val] * 2 ^ 192 < (c * 2 ^ 64 + (roundConstant t).toNat + 1) ^ 3 := by
  decide

/-- IV[j] against the square root of its prime (R185). The integer part `c` is less than 5, as the primes are less than 5². -/
theorem initialHash_square_root : ∀ j : Fin 8, ∃ c < 5,
    (c * 2 ^ 64 + initialHash[j].toNat) ^ 2 ≤ firstPrimes[j.val] * 2 ^ 128 ∧
    firstPrimes[j.val] * 2 ^ 128 < (c * 2 ^ 64 + initialHash[j].toNat + 1) ^ 2 := by
  decide

/-- Settles O34: each comparison with the table's prime is one with the prime of that number. -/
theorem constantsAreBitsOfRootsOfPrimes : Obligations.ConstantsAreBitsOfRootsOfPrimes := by
  refine ⟨fun t => ?_, fun j => ?_⟩
  · obtain ⟨c, _, hroot⟩ := roundConstant_cube_root t
    rw [nth_prime_eq_firstPrimes t.isLt]
    exact ⟨c, hroot⟩
  · obtain ⟨c, _, hroot⟩ := initialHash_square_root j
    rw [nth_prime_eq_firstPrimes (by omega)]
    exact ⟨c, hroot⟩

end Sys2Proof.Machine
end

section
/-! PROOFS. The step of each agent at its turn (R13), and that it always answers a next state (R195, R210). -/

namespace Sys2Proof.Machine

/-- With no turn left the engine takes its enabled step (log entry 1). -/
theorem step_of_no_turn {s : State} (hturns : s.turns = []) : step s = .next (engineStep s) := by
  simp only [step, hturns]

theorem step_of_engine_turn {s : State} {rest : List Turn} (hturns : s.turns = .engine :: rest) :
    step s = .next (engineStep { s with turns := rest }) := by
  simp only [step, hturns]

theorem step_of_reset_turn {s : State} {rest : List Turn} (hturns : s.turns = .reset :: rest) :
    step s = .next (resetEvent { s with turns := rest }) := by
  simp only [step, hturns]

/-- Every instruction has a meaning in every state, so no arm of `exec` refuses. -/
theorem exec_eq_next (i : Instr) (s : State) : ∃ u, exec i s = .next u := by
  cases i <;> exact ⟨_, rfl⟩

/-- What the host's step can be: the instruction decoded, or the refusal of what decodes to none (R210). -/
theorem hostStep_cases {tx : Transaction} {s u : State} (h : hostStep tx s = .next u) :
    (∃ i, decode tx = .ok i ∧ exec i s = .next u) ∨ (∃ e, decode tx = .error e ∧ u = rejectTransaction tx e s) := by
  cases hd : decode tx with
  | ok i => exact .inl ⟨i, rfl, hostStep_ok hd s ▸ h⟩
  | error e =>
    rw [hostStep_error hd] at h
    cases h
    exact .inr ⟨e, rfl, rfl⟩

theorem hostStep_eq_next (tx : Transaction) (s : State) : ∃ u, hostStep tx s = .next u := by
  cases hd : decode tx with
  | ok i => rw [hostStep_ok hd]; exact exec_eq_next i s
  | error e => exact ⟨_, hostStep_error hd s⟩

/-- Settles O10: the engine's step and the reset event are functions to states, and the host's step answers by
`hostStep_eq_next`. -/
theorem stepAlwaysAnswersNext : Obligations.StepAlwaysAnswersNext := by
  intro s
  cases hturns : s.turns with
  | nil => exact ⟨_, step_of_no_turn hturns⟩
  | cons tn rest =>
    cases tn with
    | host tx => rw [step_of_host_turn hturns]; exact hostStep_eq_next tx _
    | engine => exact ⟨_, step_of_engine_turn hturns⟩
    | reset => exact ⟨_, step_of_reset_turn hturns⟩

end Sys2Proof.Machine
end

section
/-! PROOFS. The engine's own steps (R166, R188 to R190): ROUND, FINISH, none when idle, and what none of them touches. -/

namespace Sys2Proof.Machine

/-- Settles O29: the engine's turn below t = 80 is `roundStep`, whose round is that of R166 by definition. -/
theorem engineTurnPerformsRound : Obligations.EngineTurnPerformsRound := by
  intro s rest ht hbusy hturns
  rw [step_of_engine_turn hturns, engineStep_round (s := { s with turns := rest }) hbusy ht]
  rfl

/-- Settles O30: the engine's turn at t = 80 is `finish`, which feeds a..h forward into H. -/
theorem engineTurnPerformsFinish : Obligations.EngineTurnPerformsFinish := by
  intro s rest hbusy h80 hturns
  have ht : ¬ s.t.val < 80 := by simp [h80]
  rw [step_of_engine_turn hturns, engineStep_finish (s := { s with turns := rest }) hbusy ht]
  rfl

/-- Settles O31: with BUSY = 0 the engine's turn is taken away and nothing else happens. -/
theorem engineIsDisabledWhenIdle : Obligations.EngineIsDisabledWhenIdle := by
  intro s rest hidle hturns
  rw [step_of_engine_turn hturns, engineStep_idle (s := { s with turns := rest }) hidle]

/-- Neither ROUND nor FINISH writes MSG, an error bit or the word the host has read (R23, R28, R195). -/
theorem engineStep_frame (s : State) :
    (engineStep s).MSG = s.MSG ∧ (engineStep s).errorBits = s.errorBits ∧ (engineStep s).rdata = s.rdata ∧
    (engineStep s).turns = s.turns := by
  rcases engineStep_cases s with ⟨-, hu⟩ | ⟨ht, -, hu⟩ | ⟨-, -, hu⟩ <;> rw [hu]
  · exact ⟨rfl, rfl, rfl, rfl⟩
  · exact ⟨rfl, rfl, rfl, rfl⟩
  · exact ⟨rfl, rfl, rfl, rfl⟩

theorem step_of_engineIsNext {s : State} (hnext : s.engineIsNext) : step s = .next (engineStep s.popTurn) := by
  rcases hnext with hnil | hhead
  · rw [step_of_no_turn hnil, popTurn_of_nil hnil]
  · obtain ⟨rest, hturns⟩ := List.head?_eq_some_iff.mp hhead
    rw [step_of_engine_turn hturns, popTurn_of_cons hturns]

/-- Settles O32: the step is `engineStep` with the first turn taken away. -/
theorem engineTurnKeepsMsgAndErrorBits : Obligations.EngineTurnKeepsMsgAndErrorBits := by
  intro s u hnext hstep
  rw [step_of_engineIsNext hnext] at hstep
  cases hstep
  exact engineStep_frame s.popTurn

end Sys2Proof.Machine
end

section
/-! PROOFS. What a host transaction does to the model's own fields: the word the host has read (R211, R212; log entry 2) and
the turns to come (log entry 1). -/

namespace Sys2Proof.Machine

@[simp] theorem refuse_turns (e : ErrorBit) (s : State) : (refuse e s).turns = s.turns := by cases e <;> rfl
@[simp] theorem refuse_rdata (e : ErrorBit) (s : State) : (refuse e s).rdata = s.rdata := by cases e <;> rfl
@[simp] theorem refuseRead_turns (e : ErrorBit) (s : State) : (refuseRead e s).turns = s.turns := by cases e <;> rfl
@[simp] theorem refuseRead_rdata (e : ErrorBit) (s : State) : (refuseRead e s).rdata = 0 := rfl

theorem gated_turns {s u : State} (hu : u.turns = s.turns) : (gated s u).turns = s.turns := by
  unfold gated
  split
  · exact refuse_turns .busy s
  · exact hu

theorem gated_rdata {s u : State} (hu : u.rdata = s.rdata) : (gated s u).rdata = s.rdata := by
  unfold gated
  split
  · exact refuse_rdata .busy s
  · exact hu

@[simp] theorem gatedRead_turns (v : Word) (s : State) : (gatedRead v s).turns = s.turns := by
  unfold gatedRead
  split
  · exact refuseRead_turns .busy s
  · exact answer_turns v s

@[simp] theorem performCommand_turns (s : State) (c : Command) : (performCommand s c).turns = s.turns := by
  cases c with
  | nop | clearStatus => rfl
  | init | compress | zeroize => exact gated_turns rfl

@[simp] theorem performCommand_rdata (s : State) (c : Command) : (performCommand s c).rdata = s.rdata := by
  cases c with
  | nop | clearStatus => rfl
  | init | compress | zeroize => exact gated_rdata rfl

@[simp] theorem submitCommand_turns (v : Word) (s : State) : (submitCommand v s).turns = s.turns := by
  rcases submitCommand_cases v s with ⟨-, hu⟩ | ⟨c, -, hu⟩ <;> simp [hu]

@[simp] theorem submitCommand_rdata (v : Word) (s : State) : (submitCommand v s).rdata = s.rdata := by
  rcases submitCommand_cases v s with ⟨-, hu⟩ | ⟨c, -, hu⟩ <;> simp [hu]

@[simp] theorem rejectTransaction_turns (tx : Transaction) (e : Reject) (s : State) :
    (rejectTransaction tx e s).turns = s.turns := by
  cases tx <;> simp [rejectTransaction]

/-- A refused transaction returns nothing, or 0 where it is a read (R211). -/
theorem rejectTransaction_rdata (tx : Transaction) (e : Reject) (s : State) :
    (rejectTransaction tx e s).rdata = s.rdata ∨ (rejectTransaction tx e s).rdata = 0 := by
  cases tx <;> simp [rejectTransaction]

theorem exec_turns {i : Instr} {s u : State} (h : exec i s = .next u) : u.turns = s.turns := by
  cases i <;> cases h
  case nop | init | compress | zeroize | clearStatus => exact performCommand_turns s _
  case reservedCmd5 | reservedCmd67 | reservedCmd8F | wr64Status => exact refuse_turns _ s
  case rd64Ctrl | rd64Status => exact answer_turns _ s
  case rd64Msg | rd64H => exact gatedRead_turns _ s
  case wr64Ctrl v => exact submitCommand_turns v s
  case wr64Msg | wr64H => exact gated_turns rfl

theorem hostStep_turns {tx : Transaction} {s u : State} (h : hostStep tx s = .next u) : u.turns = s.turns := by
  rcases hostStep_cases h with ⟨i, -, hu⟩ | ⟨e, -, rfl⟩
  · exact exec_turns hu
  · exact rejectTransaction_turns tx e s

/-- Every step takes one turn away and lays none down (log entry 1). -/
theorem step_turns {s u : State} (h : step s = .next u) : u.turns = s.turns.tail := by
  rcases step_cases h with ⟨hturns, rfl⟩ | ⟨rest, hturns, rfl⟩ | ⟨rest, hturns, rfl⟩ | ⟨tx, rest, hturns, hu⟩
  · obtain ⟨-, -, -, hkept⟩ := engineStep_frame s
    simp [hkept, hturns]
  · obtain ⟨-, -, -, hkept⟩ := engineStep_frame { s with turns := rest }
    simp [hkept, hturns]
  · simp [hturns]
  · simp [hostStep_turns hu, hturns]

end Sys2Proof.Machine
end

section
/-! PROOFS. The busy gate between the host and a running engine (R76, R192). -/

namespace Sys2Proof.Machine

/-- While BUSY = 1 a host transaction only reports, or it is CLEAR_STATUS. -/
theorem reports_or_clearStatus_of_busy {tx : Transaction} {s u : State} (hbusy : s.busy = true)
    (hu : HostEffect tx s u) : Reports s u ∨ u = clearStatusBits s := by
  cases hu with
  | reports _ hreports => exact .inl hreports
  | clearStatus _ => exact .inr rfl
  | init _ hidle | compress _ hidle | zeroize _ hidle | writeMsg _ _ _ _ hidle | writeH _ _ _ _ hidle =>
    simp [hbusy] at hidle

/-- While BUSY = 1 the only register an instruction reads is STATUS; the gate answers a read of MSG or H with 0 (R210). -/
theorem exec_rdata_of_busy {i : Instr} {s u : State} (hbusy : s.busy = true) (h : exec i s = .next u) :
    u.rdata = s.rdata ∨ u.rdata = 0 ∨ u.rdata = statusWord s := by
  cases i <;> cases h
  case nop | init | compress | zeroize | clearStatus => exact .inl (performCommand_rdata s _)
  case reservedCmd5 | reservedCmd67 | reservedCmd8F | wr64Status => exact .inl (refuse_rdata _ s)
  case wr64Ctrl v => exact .inl (submitCommand_rdata v s)
  case wr64Msg | wr64H => exact .inl (gated_rdata rfl)
  case rd64Ctrl => exact .inr (.inl rfl)
  case rd64Status => exact .inr (.inr rfl)
  case rd64Msg | rd64H => rw [gatedRead_busy hbusy]; exact .inr (.inl rfl)

theorem hostStep_rdata_of_busy {tx : Transaction} {s u : State} (hbusy : s.busy = true)
    (h : hostStep tx s = .next u) : u.rdata = s.rdata ∨ u.rdata = 0 ∨ u.rdata = statusWord s := by
  rcases hostStep_cases h with ⟨i, -, hu⟩ | ⟨e, -, rfl⟩
  · exact exec_rdata_of_busy hbusy hu
  · exact (rejectTransaction_rdata tx e s).imp_right .inl

/-- Settles O38: what changes is at most STATUS and the word read, and that word is 0 or STATUS. -/
theorem hostSeesOnlyStatusWhileBusy : Obligations.HostSeesOnlyStatusWhileBusy := by
  intro tx s u hbusy hstep
  have hrdata := hostStep_rdata_of_busy hbusy hstep
  rcases reports_or_clearStatus_of_busy hbusy (hostStep_effect hstep) with hu | rfl
  · exact ⟨hu.H, hu.MSG, hu.vars, hu.W, hu.t, hu.busy.trans hbusy, hrdata⟩
  · exact ⟨rfl, rfl, rfl, rfl, rfl, hbusy, hrdata⟩

end Sys2Proof.Machine
end

section
/-! PROOFS. No data-dependent control (R194): each operation takes states with the same flags, round counter and turns to such
states, whatever their data words. -/

namespace Sys2Proof.Machine

theorem sameControl_busy {s₁ s₂ : State} (h : s₁.sameControl s₂) : s₁.busy = s₂.busy := by
  obtain ⟨hbusy, -⟩ := h
  exact hbusy

theorem sameControl_t {s₁ s₂ : State} (h : s₁.sameControl s₂) : s₁.t = s₂.t := by
  obtain ⟨-, -, -, -, -, ht, -⟩ := h
  exact ht

theorem sameControl_turns {s₁ s₂ : State} (h : s₁.sameControl s₂) : s₁.turns = s₂.turns := by
  obtain ⟨-, -, -, -, -, -, hturns⟩ := h
  exact hturns

theorem sameControl_setTurns {s₁ s₂ : State} (h : s₁.sameControl s₂) (rest : List Turn) :
    { s₁ with turns := rest }.sameControl { s₂ with turns := rest } := by
  simp_all [State.sameControl]

theorem sameControl_refuse {s₁ s₂ : State} (h : s₁.sameControl s₂) (e : ErrorBit) :
    (refuse e s₁).sameControl (refuse e s₂) := by
  cases e <;> simp_all [State.sameControl]

/-- The words that two reads return may differ. -/
theorem sameControl_answer {s₁ s₂ : State} (h : s₁.sameControl s₂) (v₁ v₂ : Word) :
    (answer v₁ s₁).sameControl (answer v₂ s₂) := h

theorem sameControl_refuseRead {s₁ s₂ : State} (h : s₁.sameControl s₂) (e : ErrorBit) :
    (refuseRead e s₁).sameControl (refuseRead e s₂) :=
  sameControl_answer (sameControl_refuse h e) 0 0

/-- The busy gate looks at BUSY alone. -/
theorem sameControl_gated {s₁ s₂ u₁ u₂ : State} (h : s₁.sameControl s₂) (hu : u₁.sameControl u₂) :
    (gated s₁ u₁).sameControl (gated s₂ u₂) := by
  unfold gated
  rw [sameControl_busy h]
  split
  · exact sameControl_refuse h .busy
  · exact hu

theorem sameControl_gatedRead {s₁ s₂ : State} (h : s₁.sameControl s₂) (v₁ v₂ : Word) :
    (gatedRead v₁ s₁).sameControl (gatedRead v₂ s₂) := by
  unfold gatedRead
  rw [sameControl_busy h]
  split
  · exact sameControl_refuseRead h .busy
  · exact sameControl_answer h v₁ v₂

theorem sameControl_performCommand {s₁ s₂ : State} (h : s₁.sameControl s₂) (c : Command) :
    (performCommand s₁ c).sameControl (performCommand s₂ c) := by
  cases c with
  | nop => exact h
  | init | compress | zeroize => exact sameControl_gated h (by simp_all [State.sameControl])
  | clearStatus =>
    show (clearStatusBits s₁).sameControl (clearStatusBits s₂)
    simp_all [State.sameControl]

/-- The word written to CTRL is the host's, so it is the same in both. -/
theorem sameControl_submitCommand {s₁ s₂ : State} (h : s₁.sameControl s₂) (v : Word) :
    (submitCommand v s₁).sameControl (submitCommand v s₂) := by
  cases hc : commandOf v with
  | none => simpa only [submitCommand, hc] using sameControl_refuse h .cmd
  | some c => simpa only [submitCommand, hc] using sameControl_performCommand h c

theorem sameControl_rejectTransaction {s₁ s₂ : State} (h : s₁.sameControl s₂) (tx : Transaction) (e : Reject) :
    (rejectTransaction tx e s₁).sameControl (rejectTransaction tx e s₂) := by
  cases tx with
  | read off n => exact sameControl_refuseRead h (errorOf e)
  | write off n wdata => exact sameControl_refuse h (errorOf e)
  | command v => exact sameControl_refuse h (errorOf e)

theorem sameControl_exec {i : Instr} {s₁ s₂ u₁ u₂ : State} (h : s₁.sameControl s₂) (hu₁ : exec i s₁ = .next u₁)
    (hu₂ : exec i s₂ = .next u₂) : u₁.sameControl u₂ := by
  cases i <;> cases hu₁ <;> cases hu₂
  case nop | init | compress | zeroize | clearStatus => exact sameControl_performCommand h _
  case reservedCmd5 | reservedCmd67 | reservedCmd8F => exact sameControl_refuse h .cmd
  case rd64Ctrl | rd64Status => exact sameControl_answer h _ _
  case rd64Msg | rd64H => exact sameControl_gatedRead h _ _
  case wr64Ctrl v => exact sameControl_submitCommand h v
  case wr64Status => exact sameControl_refuse h .acc
  case wr64Msg | wr64H => exact sameControl_gated h h

theorem sameControl_hostStep {tx : Transaction} {s₁ s₂ u₁ u₂ : State} (h : s₁.sameControl s₂)
    (hu₁ : hostStep tx s₁ = .next u₁) (hu₂ : hostStep tx s₂ = .next u₂) : u₁.sameControl u₂ := by
  rcases hostStep_cases hu₁ with ⟨i, hd, hexec⟩ | ⟨e, hd, rfl⟩
  · rw [hostStep_ok hd] at hu₂
    exact sameControl_exec h hexec hu₂
  · rw [hostStep_error hd] at hu₂
    cases hu₂
    exact sameControl_rejectTransaction h tx e

/-- Which step of the engine is enabled depends on BUSY and t alone (R188 to R190). -/
theorem sameControl_engineStep {s₁ s₂ : State} (h : s₁.sameControl s₂) :
    (engineStep s₁).sameControl (engineStep s₂) := by
  have hbusy := sameControl_busy h
  have ht := sameControl_t h
  rcases engineStep_cases s₁ with ⟨hidle, hu⟩ | ⟨hlt, hrun, hu⟩ | ⟨h80, hrun, hu⟩ <;> rw [hu]
  · rwa [engineStep_idle (hbusy ▸ hidle)]
  · rw [engineStep_round (hbusy ▸ hrun) (ht ▸ hlt)]
    simp_all [State.sameControl]
  · rw [engineStep_finish (hbusy ▸ hrun) (by simp [← ht, h80])]
    simp_all [State.sameControl]

/-- Settles O52: the turns are the same, so the same agent takes its step in both states. -/
theorem controlDependsOnNoDataWord : Obligations.ControlDependsOnNoDataWord := by
  intro s₁ s₂ u₁ u₂ h hu₁ hu₂
  have hturns := sameControl_turns h
  rcases step_cases hu₁ with ⟨ht, rfl⟩ | ⟨rest, ht, rfl⟩ | ⟨rest, ht, rfl⟩ | ⟨tx, rest, ht, hhost⟩ <;>
    rw [hturns] at ht
  · rw [step_of_no_turn ht] at hu₂
    cases hu₂
    exact sameControl_engineStep h
  · rw [step_of_engine_turn ht] at hu₂
    cases hu₂
    exact sameControl_engineStep (sameControl_setTurns h rest)
  · rw [step_of_reset_turn ht] at hu₂
    cases hu₂
    exact ⟨rfl, rfl, rfl, rfl, rfl, rfl, rfl⟩
  · rw [step_of_host_turn ht] at hu₂
    exact sameControl_hostStep (sameControl_setTurns h rest) hhost hu₂

end Sys2Proof.Machine
end

section
/-! PROOFS. START (R187), performed by an accepted COMPRESS in either format (R220, R223). -/

namespace Sys2Proof.Machine

theorem exec_compress_idle {s : State} (hidle : s.busy = false) : exec .compress s = .next (start s) :=
  congrArg Host.Outcome.next (gated_idle hidle _)

/-- The write of the COMPRESS word to CTRL is the COMPRESS command (R90). -/
theorem hostStep_write_compress_idle {s : State} (hidle : s.busy = false) :
    hostStep (.write 0x000 8 0x2) s = .next (start s) := by
  rw [hostStep_write_ctrl, submitCommand, show commandOf 0x2 = some .compress from commandOf_word .compress]
  exact exec_compress_idle hidle

/-- Settles O13: W is the schedule of MSG, with the laws of `schedule`. -/
theorem compressPerformsStart : Obligations.CompressPerformsStart := by
  refine ⟨rfl, fun s hidle =>
    ⟨schedule s.MSG, exec_compress_idle hidle, fun i => ?_, fun t ht h16 => ?_⟩⟩
  · exact schedule_get_block s.MSG i.isLt
  · exact schedule_recurrence s.MSG ht h16

end Sys2Proof.Machine
end

section
/-! PROOFS. Runs of several steps, taken apart at their first and at their last step. -/

namespace Sys2Proof.Machine

/-- A run taken apart at its first step. -/
theorem run_succ_of_step {s w : State} (hstep : step s = .next w) (k : Nat) : core.run (k + 1) s = core.run k w := by
  simp only [Host.Core.run, show core.step s = .next w from hstep]

/-- A run taken apart at its last step. -/
theorem run_succ_of_run {s w : State} {k : Nat} (hrun : core.run k s = .next w) : core.run (k + 1) s = step w := by
  induction k generalizing s with
  | zero =>
    cases hrun
    obtain ⟨u, hu⟩ := stepAlwaysAnswersNext w
    rw [run_succ_of_step hu, hu]
    rfl
  | succ k ih =>
    obtain ⟨u, hu⟩ := stepAlwaysAnswersNext s
    rw [run_succ_of_step hu] at hrun ⊢
    exact ih hrun

/-- Every run ends in a state, as every step does. -/
theorem run_eq_next (k : Nat) (s : State) : ∃ w : State, core.run k s = .next w := by
  induction k with
  | zero => exact ⟨s, rfl⟩
  | succ k ih =>
    obtain ⟨w, hw⟩ := ih
    rw [run_succ_of_run hw]
    exact stepAlwaysAnswersNext w

theorem exists_last_step_of_run {s u : State} {k : Nat} (hrun : core.run (k + 1) s = .next u) :
    ∃ w : State, core.run k s = .next w ∧ step w = .next u := by
  obtain ⟨w, hw⟩ := run_eq_next k s
  exact ⟨w, hw, run_succ_of_run hw ▸ hrun⟩

theorem run_turns {s u : State} {k : Nat} (hrun : core.run k s = .next u) : u.turns = s.turns.drop k := by
  induction k generalizing u with
  | zero => cases hrun; rfl
  | succ k ih =>
    obtain ⟨w, hw, hstep⟩ := exists_last_step_of_run hrun
    rw [step_turns hstep, ih hw, List.tail_drop]

/-- Each step takes one turn away, so the turn after `k` steps is among the first `k + 1`. -/
theorem head_ne_reset_of_noResetWithin {s u : State} {k : Nat} (hno : s.noResetWithin (k + 1))
    (hrun : core.run k s = .next u) : u.turns.head? ≠ some .reset := by
  rw [run_turns hrun, List.head?_drop]
  intro hreset
  have htake : (s.turns.take (k + 1))[k]? = some .reset := by
    rw [List.getElem?_take_of_lt (Nat.lt_succ_self k), hreset]
  exact hno (List.mem_of_getElem? htake)

end Sys2Proof.Machine
end

section
/-! PROOFS. A COMPRESS is correct whatever its interleaving with the host (R193): while it runs, H and MSG are those of its
start and the engine's invariant holds, so FINISH adds the 80 rounds' working variables to H. -/

namespace Sys2Proof.Machine

/-- A running compression of the block `M` from the hash state `Hin`. -/
structure Compressing (Hin : Vector Word 8) (M : Vector Word 16) (s : State) : Prop where
  inv : s.Inv
  busy : s.busy = true
  H : s.H = Hin
  MSG : s.MSG = M

theorem compressing_start (s : State) : Compressing s.H s.MSG (start s) where
  inv := inv_start s
  busy := rfl
  H := rfl
  MSG := rfl

/-- A step after which BUSY is still 1 is a ROUND or a host transaction, which the busy gate keeps off H and MSG (R192). -/
theorem compressing_of_step {Hin : Vector Word 8} {M : Vector Word 16} {s u : State} (hs : Compressing Hin M s)
    (hstep : step s = .next u) (hbusy : u.busy = true) : Compressing Hin M u := by
  have hinv := stepKeepsTheEngineInvariant s u hs.inv hstep
  cases step_effect hstep with
  | idle | round => exact ⟨hinv, hbusy, hs.H, hs.MSG⟩
  | finish | reset => cases hbusy
  | host _ heffect =>
    rcases reports_or_clearStatus_of_busy (s := s.popTurn) hs.busy heffect with hu | rfl
    · exact ⟨hinv, hbusy, hu.H.trans hs.H, hu.MSG.trans hs.MSG⟩
    · exact ⟨hinv, hbusy, hs.H, hs.MSG⟩

theorem compressing_of_run {Hin : Vector Word 8} {M : Vector Word 16} {s u : State} {k : Nat}
    (hs : Compressing Hin M s) (hrun : core.run k s = .next u)
    (hbusy : ∀ j w, j ≤ k → core.run j s = .next w → w.busy = true) : Compressing Hin M u := by
  induction k generalizing u with
  | zero => cases hrun; exact hs
  | succ k ih =>
    obtain ⟨w, hw, hstep⟩ := exists_last_step_of_run hrun
    have hcompressing := ih hw fun j x hj => hbusy j x (Nat.le_succ_of_le hj)
    exact compressing_of_step hcompressing hstep (hbusy (k + 1) u le_rfl hrun)

/-- At t = 80 the working variables are those of the whole permutation, so FINISH gives Compress(Hin, M) (R186, R189). -/
theorem feedForward_of_compressing {Hin : Vector Word 8} {M : Vector Word 16} {s : State} (hs : Compressing Hin M s)
    (h80 : s.t = 80) : feedForward s.H s.vars = compress Hin M := by
  obtain ⟨-, hsched, hrounds⟩ := hs.inv.2 hs.busy
  simp only [h80] at hrounds
  rw [hrounds, hsched, hs.H, hs.MSG]
  rfl

/-- The step at which BUSY falls is FINISH, unless it is a reset. -/
theorem compress_of_step {Hin : Vector Word 8} {M : Vector Word 16} {s u : State} (hs : Compressing Hin M s)
    (hstep : step s = .next u) (hreset : s.turns.head? ≠ some .reset) (hidle : u.busy = false) :
    u.H = compress Hin M ∧ u.MSG = M ∧ u.done = true := by
  cases step_effect hstep with
  | idle | round => exact absurd hidle (by simp [hs.busy])
  | finish _ _ h80 => exact ⟨feedForward_of_compressing (s := s) hs h80, hs.MSG, rfl⟩
  | reset hhead => exact absurd hhead hreset
  | host _ heffect => simp [(busy_of_hostEffect heffect).mpr (.inl hs.busy)] at hidle

/-- Settles O48: START begins the compression, it runs as long as BUSY is 1, and its last step is FINISH. -/
theorem compressionIsCorrectUnderEveryInterleaving : Obligations.CompressionIsCorrectUnderEveryInterleaving := by
  intro s s₁ u v k hidle hstart hno hrun hbusy hstep hvidle
  rw [exec_compress_idle hidle] at hstart
  cases hstart
  have hu := compressing_of_run (compressing_start s) hrun hbusy
  obtain ⟨hH, hMSG, hdone⟩ := compress_of_step hu hstep (head_ne_reset_of_noResetWithin hno hrun) hvidle
  exact ⟨hH, hMSG, hvidle, hdone⟩

end Sys2Proof.Machine
end

section
/-! PROOFS. A COMPRESS with no turn after it runs to its result in 81 steps of the engine (R186 to R189; log entry 1). -/

namespace Sys2Proof.Machine

/-- The state after the first `n` rounds of a compression that starts at t = 0. -/
def afterRounds (s : State) (n : Nat) (hn : n ≤ 80) : State :=
  { s with vars := rounds s.W s.vars n hn, t := ⟨n, Nat.lt_succ_of_le hn⟩ }

theorem roundStep_afterRounds (s : State) (n : Nat) (hn : n + 1 ≤ 80) :
    roundStep (afterRounds s n (Nat.le_of_succ_le hn)) hn = afterRounds s (n + 1) hn := rfl

/-- With no turn left the engine performs one round in each step (log entry 1). -/
theorem run_rounds {s : State} (hbusy : s.busy = true) (ht : s.t = 0) (hturns : s.turns = []) {n : Nat}
    (hn : n ≤ 80) : core.run n s = .next (afterRounds s n hn) := by
  induction n with
  | zero =>
    have hs : afterRounds s 0 hn = s := by
      cases s
      cases ht
      rfl
    rw [hs]
    rfl
  | succ n ih =>
    have hstep := step_of_no_turn (s := afterRounds s n (Nat.le_of_succ_le hn)) hturns
    rw [engineStep_round (s := afterRounds s n (Nat.le_of_succ_le hn)) hbusy hn, roundStep_afterRounds] at hstep
    exact (run_succ_of_run (ih (Nat.le_of_succ_le hn))).trans hstep

/-- FINISH after the 80 rounds. Their number is a variable, for a literal would make the kernel evaluate the run. -/
theorem run_rounds_finish {s : State} (hbusy : s.busy = true) (ht : s.t = 0) (hturns : s.turns = []) {n : Nat}
    (hn : n = 80) : core.run (n + 1) s = .next (finish (afterRounds s n hn.le)) := by
  have hstep := step_of_no_turn (s := afterRounds s n hn.le) hturns
  rw [engineStep_finish (s := afterRounds s n hn.le) hbusy hn.not_lt] at hstep
  exact (run_succ_of_run (run_rounds hbusy ht hturns hn.le)).trans hstep

/-- Settles O49: the write is START, 80 rounds make the permutation, and FINISH feeds it forward. -/
theorem compressRunsToItsResultIn81EngineSteps : Obligations.CompressRunsToItsResultIn81EngineSteps := by
  intro s hidle hturns
  have hstart : step s = .next (start { s with turns := [] }) := by
    rw [step_of_host_turn hturns]
    exact hostStep_write_compress_idle hidle
  exact (run_succ_of_step hstart (80 + 1)).trans (run_rounds_finish rfl rfl rfl rfl)

end Sys2Proof.Machine
end

section
/-! PROOFS. A host that polls STATUS reads BUSY = 0 in the end (R191). -/

namespace Sys2Proof.Machine

/-- `n` turns of the engine are enough for a compression that is running to end: the rounds left and FINISH. -/
def State.endsWithin (n : Nat) (s : State) : Prop := s.busy = true → 81 ≤ n + s.t.val

theorem idle_of_endsWithin_zero {s : State} (h : s.endsWithin 0) : s.busy = false := by
  by_contra hbusy
  have hle := h (by simpa using hbusy)
  have hlt := s.t.isLt
  omega

/-- An engine's turn is a ROUND, which leaves one turn less to wait for, or BUSY is 0 after it. -/
theorem endsWithin_engineStep {s : State} {n : Nat} (h : s.endsWithin (n + 1)) : (engineStep s).endsWithin n := by
  rcases engineStep_cases s with ⟨hidle, hu⟩ | ⟨ht, hbusy, hu⟩ | ⟨-, -, hu⟩ <;> rw [hu]
  · simp [State.endsWithin, hidle]
  · have hle := h hbusy
    intro _
    show 81 ≤ n + (s.t.val + 1)
    omega
  · simp [State.endsWithin]

theorem hostStep_read_status (s : State) : hostStep (.read 0x008 8) s = .next (answer (statusWord s) s) :=
  hostStep_ok (i := .rd64Status) rfl s

/-- Along engine turns and reads of STATUS a read keeps BUSY and t, so the engine's turns are enough. -/
theorem run_polling {l rest : List Turn} {s : State} (hl : ∀ x ∈ l, x = .engine ∨ x = .host (.read 0x008 8))
    (hturns : s.turns = l ++ rest) (hends : s.endsWithin (l.count .engine)) :
    ∃ u : State, core.run l.length s = .next u ∧ u.busy = false ∧ u.turns = rest := by
  induction l generalizing s with
  | nil => exact ⟨s, rfl, idle_of_endsWithin_zero hends, hturns⟩
  | cons x l ih =>
    obtain ⟨hx, htail⟩ := List.forall_mem_cons.mp hl
    rcases hx with rfl | rfl
    · have hstep := step_of_engine_turn hturns
      rw [List.count_cons_self] at hends
      rw [List.length_cons, run_succ_of_step hstep]
      refine ih htail (by rw [step_turns hstep, hturns]; rfl) (endsWithin_engineStep hends)
    · have hstep := (step_of_host_turn hturns).trans (hostStep_read_status _)
      rw [List.count_cons_of_ne (by simp)] at hends
      rw [List.length_cons, run_succ_of_step hstep]
      exact ih htail rfl hends

/-- Bit 0 of the STATUS word is BUSY (R25). -/
theorem statusWord_bit_zero (s : State) : (statusWord s).getLsbD 0 = s.busy := by
  rw [statusWord, BitVec.getLsbD_setWidth, BitVec.getLsbD_append]
  cases s.busy <;> simp [bit]

/-- Settles O50: after the turns of `l` the engine is idle, and the last read returns STATUS as it is then. -/
theorem pollingReadsBusyZeroInTheEnd : Obligations.PollingReadsBusyZeroInTheEnd := by
  intro s l _ hl hcount hturns
  obtain ⟨u, hrun, hidle, hlast⟩ := run_polling hl hturns fun _ => hcount
  refine ⟨answer (statusWord u.popTurn) u.popTurn, ?_, hidle, ?_⟩
  · rw [popTurn_of_cons hlast]
    exact (run_succ_of_run hrun).trans ((step_of_host_turn hlast).trans (hostStep_read_status _))
  · rw [answer_rdata, statusWord_bit_zero]
    exact hidle

end Sys2Proof.Machine
end

section
/-! PROOFS. The command words as numbers: the five legal ones are 0 to 4, and the host's write of each performs its command
(R93, R95, R220). -/

namespace Sys2Proof.Machine

/-- The words 0 to 4 carry a command and no other word does (R93, R95). -/
theorem commandOf_eq_none_iff {v : Word} : commandOf v = none ↔ 4 < v.toNat := by
  constructor
  · intro hv
    by_contra hle
    have hcommand : ∃ c : Command, v.toNat = c.word.toNat := by
      interval_cases v.toNat
      exacts [⟨.nop, rfl⟩, ⟨.init, rfl⟩, ⟨.compress, rfl⟩, ⟨.zeroize, rfl⟩, ⟨.clearStatus, rfl⟩]
    obtain ⟨c, hc⟩ := hcommand
    rw [BitVec.eq_of_toNat_eq hc, commandOf_word] at hv
    cases hv
  · intro hlt
    cases hv : commandOf v with
    | none => rfl
    | some c =>
      rw [commandOf_eq_some hv] at hlt
      cases c <;> exact absurd hlt (by decide)

theorem exec_wr64Ctrl_word (c : Command) (s : State) : exec (.wr64Ctrl c.word) s = .next (performCommand s c) :=
  exec_of_command (i := .wr64Ctrl c.word) (commandOf_word c) s

/-- A word above 4 written to CTRL is refused with ERR_CMD, with no look at BUSY (R226). -/
theorem exec_wr64Ctrl_illegal {v : Word} (hv : 4 < v.toNat) (s : State) :
    exec (.wr64Ctrl v) s = .next { s with errCmd := true } :=
  congrArg Host.Outcome.next (submitCommand_illegal (commandOf_eq_none_iff.mpr hv) s)

/-- The busy gate of the commands: all but NOP and CLEAR_STATUS are refused with ERR_BUSY (R210, step 3). -/
theorem performCommand_busy {s : State} {c : Command} (hbusy : s.busy = true) (hnop : c ≠ .nop)
    (hclear : c ≠ .clearStatus) : performCommand s c = { s with errBusy := true } := by
  cases c with
  | nop => exact absurd rfl hnop
  | init | compress | zeroize => exact gated_busy hbusy _
  | clearStatus => exact absurd rfl hclear

/-- A gated command is refused while BUSY = 1, in either format (R220, R222 to R224). -/
theorem exec_command_busy {i : Instr} {c : Command} {s : State} (hc : i.command? = some c) (hbusy : s.busy = true)
    (hnop : c ≠ .nop) (hclear : c ≠ .clearStatus) : exec i s = .next { s with errBusy := true } := by
  rw [exec_of_command hc, performCommand_busy hbusy hnop hclear]

/-- Settles O17: the reserved rows refuse without reading their OP, and a word above 4 carries no command in either format. -/
theorem illegalCommandSetsErrCmdOnly : Obligations.IllegalCommandSetsErrCmdOnly := by
  refine ⟨fun _ => rfl, fun _ _ => rfl, fun _ _ => rfl, fun v s hv => ⟨exec_wr64Ctrl_illegal hv s, ?_⟩⟩
  exact hostStep_command_illegal (commandOf_eq_none_iff.mpr hv) s

/-- Settles O18: each legal word is the word of its command, whose busy gate decides, and the words above 4 are illegal. -/
theorem writeToCtrlPerformsTheCommand : Obligations.WriteToCtrlPerformsTheCommand := by
  refine ⟨fun _ => rfl, exec_wr64Ctrl_word .nop, fun s hidle => ?_, fun s hidle => ?_, fun s hidle => ?_,
    exec_wr64Ctrl_word .clearStatus, fun v s hbusy hlow hhigh => ?_, fun v s hv => exec_wr64Ctrl_illegal hv s⟩
  · exact (exec_wr64Ctrl_word .init s).trans (congrArg _ (gated_idle hidle _))
  · exact (exec_wr64Ctrl_word .compress s).trans (congrArg _ (gated_idle hidle _))
  · exact (exec_wr64Ctrl_word .zeroize s).trans (congrArg _ (gated_idle hidle _))
  · cases hv : commandOf v with
    | none =>
      have hillegal := commandOf_eq_none_iff.mp hv
      omega
    | some c =>
      refine exec_command_busy hv hbusy ?_ ?_
      · rintro rfl
        rw [commandOf_eq_some hv] at hlow
        exact absurd hlow (by decide)
      · rintro rfl
        rw [commandOf_eq_some hv] at hhigh
        exact absurd hhigh (by decide)

end Sys2Proof.Machine
end

section
/-! PROOFS. The commands one by one (R221 to R225). -/

namespace Sys2Proof.Machine

theorem exec_init_idle {s : State} (hidle : s.busy = false) : exec .init s = .next (loadInitialHash s) :=
  congrArg Host.Outcome.next (gated_idle hidle _)

theorem exec_zeroize_idle {s : State} (hidle : s.busy = false) : exec .zeroize s = .next (zeroizeState s) :=
  congrArg Host.Outcome.next (gated_idle hidle _)

theorem loadInitialHash_loadInitialHash (s : State) : loadInitialHash (loadInitialHash s) = loadInitialHash s := rfl

/-- Settles O11: NOP stands behind no busy gate and has no effect. -/
theorem nopChangesNothing : Obligations.NopChangesNothing :=
  ⟨rfl, exec_of_command (c := .nop) rfl⟩

/-- Settles O12: the busy gate decides, and INIT leaves BUSY as it was, so that a second one is accepted with the first. -/
theorem initLoadsTheInitialHash : Obligations.InitLoadsTheInitialHash := by
  refine ⟨rfl, fun s hidle => exec_init_idle hidle,
    fun s hbusy => exec_command_busy (c := .init) rfl hbusy (by decide) (by decide), fun s u hidle hu => ?_⟩
  rw [exec_init_idle hidle] at hu
  cases hu
  rw [exec_init_idle (s := loadInitialHash s) hidle, loadInitialHash_loadInitialHash]

/-- Settles O14, by the busy gate. -/
theorem compressIsRefusedWhileBusy : Obligations.CompressIsRefusedWhileBusy :=
  fun _ hbusy => exec_command_busy (c := .compress) rfl hbusy (by decide) (by decide)

/-- What ZEROIZE leaves of an idle machine is the reset state but for the error bits and the model's own fields (R224). -/
theorem zeroizeState_eq_reset {s : State} (hidle : s.busy = false) :
    zeroizeState s = { State.reset with
      errAcc := s.errAcc, errBusy := s.errBusy, errCmd := s.errCmd, rdata := s.rdata, turns := s.turns } := by
  rw [zeroizeState, hidle]
  rfl

/-- Settles O15: the busy gate decides, and an accepted ZEROIZE finds BUSY 0, which is its reset value. -/
theorem zeroizeClearsAllButTheErrorBits : Obligations.ZeroizeClearsAllButTheErrorBits := by
  refine ⟨rfl, fun s hidle => ?_,
    fun s hbusy => exec_command_busy (c := .zeroize) rfl hbusy (by decide) (by decide)⟩
  rw [exec_zeroize_idle hidle, zeroizeState_eq_reset hidle]

/-- Settles O16: CLEAR_STATUS stands behind no busy gate. -/
theorem clearStatusClearsErrorsAndDone : Obligations.ClearStatusClearsErrorsAndDone :=
  ⟨rfl, exec_of_command (c := .clearStatus) rfl⟩

end Sys2Proof.Machine
end

section
/-! PROOFS. The reads and writes of the registers one by one (R213 to R219). -/

namespace Sys2Proof.Machine

theorem msg_offset_eq_ofNat (i : Fin 16) : (Reg.msg i).offset = BitVec.ofNat 9 (0x080 + 8 * i.val) := by
  rw [← msg_offset_toNat, BitVec.ofNat_toNat, BitVec.setWidth_eq]

theorem h_offset_eq_ofNat (j : Fin 8) : (Reg.h j).offset = BitVec.ofNat 9 (0x100 + 8 * j.val) := by
  rw [← h_offset_toNat, BitVec.ofNat_toNat, BitVec.setWidth_eq]

/-- Five bits laid side by side are the number with those binary digits. -/
theorem append_bits_eq_ofNat : ∀ b₄ b₃ b₂ b₁ b₀ : Bool,
    (bit b₄ ++ bit b₃ ++ bit b₂ ++ bit b₁ ++ bit b₀).setWidth 64 =
      BitVec.ofNat 64 (b₀.toNat + 2 * b₁.toNat + 4 * b₂.toNat + 8 * b₃.toNat + 16 * b₄.toNat) := by
  decide

/-- Settles O19: CTRL has no storage and reads as 0. -/
theorem readOfCtrlReturnsZero : Obligations.ReadOfCtrlReturnsZero :=
  ⟨encode_readInstr .ctrl, fun _ => rfl⟩

/-- Settles O20: the answer is the STATUS word, whose bits are the flags. -/
theorem readOfStatusReturnsTheFlags : Obligations.ReadOfStatusReturnsTheFlags := by
  refine ⟨encode_readInstr .status, fun s => ?_⟩
  rw [← append_bits_eq_ofNat]
  rfl

/-- Settles O21, by the busy gate of reads. -/
theorem readOfMsgReturnsTheRegister : Obligations.ReadOfMsgReturnsTheRegister := by
  refine ⟨fun i => ?_, fun i s hidle => ?_, fun i s hbusy => ?_⟩
  · rw [← msg_offset_eq_ofNat]
    exact encode_readInstr (.msg i)
  · exact congrArg Host.Outcome.next (gatedRead_idle hidle _)
  · exact congrArg Host.Outcome.next (gatedRead_busy hbusy _)

/-- Settles O22, by the busy gate of reads. -/
theorem readOfHReturnsTheRegister : Obligations.ReadOfHReturnsTheRegister := by
  refine ⟨fun j => ?_, fun j s hidle => ?_, fun j s hbusy => ?_⟩
  · rw [← h_offset_eq_ofNat]
    exact encode_readInstr (.h j)
  · exact congrArg Host.Outcome.next (gatedRead_idle hidle _)
  · exact congrArg Host.Outcome.next (gatedRead_busy hbusy _)

/-- Settles O23, by the busy gate of writes. -/
theorem writeOfMsgSetsTheRegister : Obligations.WriteOfMsgSetsTheRegister := by
  refine ⟨fun i v => ?_, fun i v s hidle => exec_wr64Msg_idle hidle i v, fun i v s hbusy => ?_⟩
  · rw [← msg_offset_eq_ofNat]
    exact encode_writeInstr v (.msg i)
  · exact congrArg Host.Outcome.next (gated_busy hbusy _)

/-- Settles O24, by the busy gate of writes. -/
theorem writeOfHSetsTheRegister : Obligations.WriteOfHSetsTheRegister := by
  refine ⟨fun j v => ?_, fun j v s hidle => exec_wr64H_idle hidle j v, fun j v s hbusy => ?_⟩
  · rw [← h_offset_eq_ofNat]
    exact encode_writeInstr v (.h j)
  · exact congrArg Host.Outcome.next (gated_busy hbusy _)

/-- Settles O25: the refused form looks at neither the word nor BUSY. -/
theorem writeToStatusSetsErrAccOnly : Obligations.WriteToStatusSetsErrAccOnly :=
  fun v => ⟨encode_writeInstr v .status, fun _ => rfl⟩

end Sys2Proof.Machine
end

section
/-! PROOFS. The procedure BusAccess of R210 against the decoder and the dispatch: an access that names no register fails the
procedure's first two checks, and an access at a register passes them and has the effect of its instruction. -/

namespace Sys2Proof.Machine

/-! ### The procedure's refusals and its ranges of offsets -/

@[simp] theorem raiseFor_read (e : ErrorBit) (s : State) : raiseFor false e s = refuseRead e s := rfl

@[simp] theorem raiseFor_write (e : ErrorBit) (s : State) : raiseFor true e s = refuse e s := rfl

theorem inMsg_iff {off : Nat} : inMsg off = true ↔ 0x080 ≤ off ∧ off ≤ 0x0F8 := by simp [inMsg]

theorem inH_iff {off : Nat} : inH off = true ↔ 0x100 ≤ off ∧ off ≤ 0x138 := by simp [inH]

@[simp] theorem inMsg_msg_offset (i : Fin 16) : inMsg (0x080 + 8 * i.val) = true := inMsg_iff.mpr (by omega)

@[simp] theorem inMsg_h_offset (j : Fin 8) : inMsg (0x100 + 8 * j.val) = false := by
  rw [Bool.eq_false_iff, ne_eq, inMsg_iff]; omega

@[simp] theorem inH_h_offset (j : Fin 8) : inH (0x100 + 8 * j.val) = true := inH_iff.mpr (by omega)

@[simp] theorem msg_offset_ne_status (i : Fin 16) : 0x080 + 8 * i.val ≠ 0x008 := by omega

@[simp] theorem h_offset_ne_status (j : Fin 8) : 0x100 + 8 * j.val ≠ 0x008 := by omega

/-- The first two checks of R210 pass at the offsets of the registers alone. -/
theorem exists_offset_of_mapped {off : BitVec 9} (haligned : off.toNat % 8 = 0)
    (hmapped : off.toNat = 0x000 ∨ off.toNat = 0x008 ∨ inMsg off.toNat ∨ inH off.toNat) : ∃ r : Reg, off = r.offset := by
  rw [inMsg_iff, inH_iff] at hmapped
  rcases hmapped with hctrl | hstatus | hmsg | hh
  · exact ⟨.ctrl, BitVec.eq_of_toNat_eq hctrl⟩
  · exact ⟨.status, BitVec.eq_of_toNat_eq hstatus⟩
  · refine ⟨.msg ⟨(off.toNat - 0x080) / 8, by omega⟩, BitVec.eq_of_toNat_eq ?_⟩
    rw [msg_offset_toNat]
    dsimp only
    omega
  · refine ⟨.h ⟨(off.toNat - 0x100) / 8, by omega⟩, BitVec.eq_of_toNat_eq ?_⟩
    rw [h_offset_toNat]
    dsimp only
    omega

/-- An access that names no register fails the check of size and alignment or that of the register map (R63, R64, R210). -/
theorem busAccess_of_no_register {off : BitVec 9} {n : Nat} (h : ∀ r : Reg, n = 8 → off ≠ r.offset) (dir : Bool)
    (wdata : Word) (s : State) : busAccess dir off.toNat n wdata s = raiseFor dir .acc s := by
  unfold busAccess
  by_cases hsize : n ≠ 8 ∨ off.toNat % 8 ≠ 0
  · exact if_pos hsize
  · rw [if_neg hsize, if_pos]
    intro hmapped
    obtain ⟨r, hr⟩ := exists_offset_of_mapped (by omega) hmapped
    exact h r (by omega) hr

/-! ### Reads -/

theorem busAccess_read_ctrl (s : State) : busAccess false 0x000 8 0 s = answer 0 s := by
  simp [busAccess, inMsg, inH, answer]

theorem busAccess_read_status (s : State) : busAccess false 0x008 8 0 s = answer (statusWord s) s := by
  simp [busAccess, inMsg, inH, answer]

theorem busAccess_read_msg (i : Fin 16) (s : State) :
    busAccess false (0x080 + 8 * i.val) 8 0 s = gatedRead s.MSG[i] s := by
  simp [busAccess, gatedRead, answer]

theorem busAccess_read_h (j : Fin 8) (s : State) :
    busAccess false (0x100 + 8 * j.val) 8 0 s = gatedRead s.H[j] s := by
  simp [busAccess, gatedRead, answer]

/-- A read at a register does what R210 says: MSG and H stand behind the busy gate, CTRL and STATUS do not. -/
theorem hostStep_read_offset (r : Reg) (s : State) :
    hostStep (.read r.offset 8) s = .next (busAccess false r.offset.toNat 8 0 s) := by
  rw [hostStep_ok (decode_read_offset r)]
  cases r with
  | ctrl => rw [ctrl_offset_toNat, busAccess_read_ctrl]; rfl
  | status => rw [status_offset_toNat, busAccess_read_status]; rfl
  | msg i => rw [msg_offset_toNat, busAccess_read_msg]; rfl
  | h j => rw [h_offset_toNat, busAccess_read_h]; rfl

/-! ### Writes -/

/-- The procedure's total write of a register vector, at an index that is in bounds, is the model's. -/
theorem setIfInBounds_eq_set {n i : Nat} (hi : i < n) (regs : Vector Word n) (v : Word) :
    regs.setIfInBounds i v = regs.set i v := by
  ext k hk
  rw [Vector.getElem_setIfInBounds, Vector.getElem_set]

theorem busAccess_write_illegal {v : Word} (hv : 4 < v.toNat) (s : State) :
    busAccess true 0x000 8 v s = refuse .cmd s := by
  have hillegal : 16 ≤ v.toNat ∨ 4 < v.toNat % 16 := by omega
  simp [busAccess, hillegal]

theorem busAccess_write_word (c : Command) (s : State) : busAccess true 0x000 8 c.word s = performCommand s c := by
  cases c <;> simp [busAccess, Command.word, inMsg, inH, performCommand, gated]

/-- The procedure's checks and effects on a word written to CTRL are those of the command it carries (R210, R220). -/
theorem busAccess_write_ctrl (v : Word) (s : State) : busAccess true 0x000 8 v s = submitCommand v s := by
  cases hv : commandOf v with
  | none => rw [busAccess_write_illegal (commandOf_eq_none_iff.mp hv), submitCommand_illegal hv]
  | some c => rw [submitCommand, hv, commandOf_eq_some hv, busAccess_write_word]

theorem busAccess_write_status (v : Word) (s : State) : busAccess true 0x008 8 v s = refuse .acc s := by
  simp [busAccess]

theorem busAccess_write_msg (i : Fin 16) (v : Word) (s : State) :
    busAccess true (0x080 + 8 * i.val) 8 v s = gated s (setMsg i v s) := by
  simp [busAccess, setIfInBounds_eq_set, gated, setMsg]

theorem busAccess_write_h (j : Fin 8) (v : Word) (s : State) :
    busAccess true (0x100 + 8 * j.val) 8 v s = gated s (setH j v s) := by
  simp [busAccess, setIfInBounds_eq_set, gated, setH]

/-- A write at a register does what R210 says: STATUS refuses it, CTRL takes it as a command, MSG and H stand behind the
busy gate. -/
theorem hostStep_write_offset (r : Reg) (v : Word) (s : State) :
    hostStep (.write r.offset 8 v) s = .next (busAccess true r.offset.toNat 8 v s) := by
  rw [hostStep_ok (decode_write_offset v r)]
  cases r with
  | ctrl => rw [ctrl_offset_toNat, busAccess_write_ctrl]; rfl
  | status => rw [status_offset_toNat, busAccess_write_status]; rfl
  | msg i => rw [msg_offset_toNat, busAccess_write_msg]; rfl
  | h j => rw [h_offset_toNat, busAccess_write_h]; rfl

/-! ### Every transaction -/

/-- An access at a register does what R210 says, and one that stands at none is refused by both with ERR_ACC. -/
theorem hostStep_access (off : BitVec 9) (n : Nat) (v : Word) (s : State) :
    hostStep (.read off n) s = .next (busAccess false off.toNat n 0 s) ∧
    hostStep (.write off n v) s = .next (busAccess true off.toNat n v s) := by
  by_cases hreg : ∃ r : Reg, n = 8 ∧ off = r.offset
  · obtain ⟨r, rfl, rfl⟩ := hreg
    exact ⟨hostStep_read_offset r s, hostStep_write_offset r v s⟩
  · have hnone : ∀ r : Reg, n = 8 → off ≠ r.offset := fun r hn hoff => hreg ⟨r, hn, hoff⟩
    rw [busAccess_of_no_register hnone, busAccess_of_no_register hnone]
    exact hostStep_of_no_register hnone s v

/-- Settles O8: the accesses agree with the procedure, and a command word is the write of it to CTRL. -/
theorem hostStepIsBusAccess : Obligations.HostStepIsBusAccess := by
  intro tx s
  cases tx with
  | read off n => exact (hostStep_access off n 0 s).left
  | write off n v => exact (hostStep_access off n v s).right
  | command v =>
    rw [commandWordIsAWriteToCtrl v s]
    exact hostStep_write_offset .ctrl v s

end Sys2Proof.Machine
end

section
/-! PROOFS. Bytes and words, most significant byte first (R67, R68): the bytes of a packed word (R245) and of the serialised
hash (R247). -/

namespace Sys2Proof.Machine

/-! ### Packing -/

/-- Byte k of the number that bytes stand for is byte k of them, most significant first. -/
theorem bigEndianValue_byte (w : List Byte) {k : Nat} (hk : k < w.length) :
    bigEndianValue w / 256 ^ (w.length - 1 - k) % 256 = w[k].toNat := by
  induction w using List.reverseRecOn with
  | nil => exact absurd hk (Nat.not_lt_zero k)
  | append_singleton w b ih =>
    have hb : b.toNat < 256 := b.isLt
    rw [List.length_append, List.length_singleton] at hk
    rcases Nat.lt_succ_iff_lt_or_eq.mp hk with hlt | rfl
    · have hexp : w.length + 1 - 1 - k = w.length - 1 - k + 1 := by omega
      have hshift : (bigEndianValue w * 256 + b.toNat) / 256 = bigEndianValue w := by omega
      rw [bigEndianValue_concat, List.length_append, List.length_singleton, hexp, Nat.pow_succ', ← Nat.div_div_eq_div_mul,
        hshift, ih hlt, List.getElem_append_left hlt]
    · simp [Nat.mod_eq_of_lt hb]

/-- Byte k of the 64-bit word of a number is the number shifted right by the 7 - k bytes after it. -/
theorem wordByte_ofNat (v : Nat) {k : Nat} (hk : k < 8) :
    wordByte (BitVec.ofNat 64 v) k = BitVec.ofNat 8 (v / 256 ^ (7 - k)) := by
  have hpow : 256 ^ (7 - k) = 2 ^ (56 - 8 * k) := by
    rw [show 256 = 2 ^ 8 from rfl, ← Nat.pow_mul, Nat.mul_sub]
  apply BitVec.eq_of_getLsbD_eq
  intro i hi
  have hbit : i + (56 - 8 * k) < 64 := by omega
  rw [wordByte, BitVec.getLsbD_extractLsb', BitVec.getLsbD_ofNat, BitVec.getLsbD_ofNat, hpow, Nat.testBit_div_two_pow]
  simp [hi, hbit, Nat.add_comm _ i]

/-- The word that eight bytes stand for has these bytes, in their order. -/
theorem wordByte_ofNat_bigEndianValue {w : List Byte} (hw : w.length = 8) {k : Nat} (hk : k < w.length) :
    wordByte (BitVec.ofNat 64 (bigEndianValue w)) k = w[k] := by
  apply BitVec.eq_of_toNat_eq
  have hbyte := bigEndianValue_byte w hk
  rw [hw] at hbyte
  rw [wordByte_ofNat _ (hw ▸ hk), BitVec.toNat_ofNat, ← hbyte]

/-- The bytes of a packed word are the eight it is packed from; past the end of the block they are 0. -/
theorem wordByte_packWord (B : List Byte) (i : Nat) {k : Nat} (hk : k < 8) :
    wordByte (packWord B i) k = B.getD (8 * i + k) 0 := by
  rw [packWord_eq_bigEndianValue, wordByte_ofNat_bigEndianValue (by simp) (by simpa using hk), List.getElem_map,
    List.getElem_range]

/-- Settles O55: the byte of the packed word is the one read from the block, and a block of 128 bytes has it. -/
theorem packedWordIsBigEndian : Obligations.PackedWordIsBigEndian := by
  intro B i k hi hk hB
  have hin : 8 * i + k < B.length := by omega
  calc some ((packWord B i).extractLsb' (56 - 8 * k) 8) = some (B.getD (8 * i + k) 0) :=
        congrArg some (wordByte_packWord B i hk)
    _ = B[8 * i + k]? := by rw [List.getD_eq_getElem _ _ hin, List.getElem?_eq_getElem hin]

/-! ### Serialising -/

/-- In a concatenation of pieces of n elements each, element n·j + k is element k of piece j. -/
theorem getElem?_flatMap_of_uniform {α β : Type} {f : α → List β} {n : Nat} (hlen : ∀ x, (f x).length = n)
    {l : List α} {j : Nat} (hj : j < l.length) {k : Nat} (hk : k < n) :
    (l.flatMap f)[n * j + k]? = (f l[j])[k]? := by
  induction l generalizing j with
  | nil => exact absurd hj (Nat.not_lt_zero j)
  | cons x l ih =>
    rw [List.flatMap_cons]
    cases j with
    | zero => simp [List.getElem?_append_left, hlen, hk]
    | succ j =>
      have hidx : n * (j + 1) + k - n = n * j + k := by rw [Nat.mul_succ]; omega
      have hpast : (f x).length ≤ n * (j + 1) + k := by rw [hlen, Nat.mul_succ]; omega
      rw [List.getElem?_append_right hpast, hlen, hidx, ih (Nat.lt_of_succ_lt_succ hj), List.getElem_cons_succ]

theorem serialise_length (H : Vector Word 8) : (serialise H).length = 64 := by
  simp [serialise, List.length_flatMap]

/-- Byte 8j + k of the serialised hash is byte k of H[j] (R247). -/
theorem serialise_getElem? (H : Vector Word 8) (j : Fin 8) {k : Nat} (hk : k < 8) :
    (serialise H)[8 * j.val + k]? = some (wordByte H[j] k) := by
  have hj : j.val < H.toList.length := by simp
  rw [serialise, getElem?_flatMap_of_uniform (by simp) hj hk]
  simp [hk]

/-- Settles O56: inside the domain the digest is the serialised hash, and that is the eight words' bytes in order. -/
theorem serialisedDigestIsBigEndian : Obligations.SerialisedDigestIsBigEndian :=
  ⟨fun m hm => ⟨serialise (digestState m), digest_inDomain hm, rfl, serialise_length (digestState m)⟩,
    fun H j _ hk => serialise_getElem? H j hk⟩

end Sys2Proof.Machine
end

section
/-! PROOFS. The length of the padded message (R242, R243) and the domain of the digest (R241). -/

namespace Sys2Proof.Machine

/-- The length field fills the last block after its 14 words of padding body (R243). -/
theorem pad_length_eq_blockCount (m : List Byte) : (pad m).length = 128 * blockCount m.length := by
  have hpos : 1 ≤ blockCount m.length := Nat.le_add_left 1 _
  rw [pad_eq_padBody, List.length_append, List.length_append, padBody_length, bigEndianBytes_length, bigEndianBytes_length]
  omega

/-- The padding adds the byte 0x80, z zero bytes and 16 bytes of length (R242). -/
theorem pad_length_eq_parts (m : List Byte) : (pad m).length = m.length + 1 + padZeros m.length + 16 := by
  simp [pad]
  omega

/-- Settles O53: the two lengths of the padded message, and the block count evaluated at the boundaries. -/
theorem paddedLengthIsWholeBlocks : Obligations.PaddedLengthIsWholeBlocks :=
  ⟨fun m => ⟨pad_length_eq_parts m, pad_length_eq_blockCount m, rfl, Nat.le_add_left 1 _⟩, by decide⟩

theorem digest_eq_some_iff_inDomain (m : List Byte) : (∃ D, digest m = some D) ↔ inDomain m = true := by
  cases hm : inDomain m with
  | false => simp [digest_refused hm]
  | true => simp [digest_inDomain hm]

/-- Settles O59: a message has a digest exactly inside the domain, and that is its bound on the bit length. -/
theorem digestIsDefinedExactlyOnItsDomain : Obligations.DigestIsDefinedExactlyOnItsDomain :=
  fun m => (digest_eq_some_iff_inDomain m).trans (inDomain_iff m)

end Sys2Proof.Machine
end

section
/-! PROOFS. What a host transaction can do to the error bits (R262 to R264): the procedure of R210 stops at the first check that
fails, with that check's error raised, or it passes them all and sets no error bit. -/

namespace Sys2Proof

/-- Whether a transaction writes: a command word is a write to CTRL (R90, R91). -/
def Transaction.writes : Transaction → Bool
  | .read _ _ => false
  | .write _ _ _ => true
  | .command _ => true

end Sys2Proof

namespace Sys2Proof.Machine

/-! ### The error bits by their codes -/

/-- The STATUS bit of an error code (R261). -/
def State.errorBit (s : State) : ErrorBit → Bool
  | .acc => s.errAcc
  | .busy => s.errBusy
  | .cmd => s.errCmd

@[simp] theorem errorBit_acc (s : State) : s.errorBit .acc = s.errAcc := rfl
@[simp] theorem errorBit_busy (s : State) : s.errorBit .busy = s.errBusy := rfl
@[simp] theorem errorBit_cmd (s : State) : s.errorBit .cmd = s.errCmd := rfl

/-- A refusal sets the bit of its own error and leaves the other two as they were (R264). -/
theorem errorBit_refuse (e e' : ErrorBit) (s : State) :
    (refuse e s).errorBit e' = true ↔ e' = e ∨ s.errorBit e' = true := by
  cases e <;> cases e' <;> simp

theorem errorBit_raiseFor (dir : Bool) (e e' : ErrorBit) (s : State) :
    (raiseFor dir e s).errorBit e' = true ↔ e' = e ∨ s.errorBit e' = true := by
  cases dir with
  | false => exact errorBit_refuse e e' s
  | true => exact errorBit_refuse e e' s

@[simp] theorem errorBit_clearStatusBits (e : ErrorBit) (s : State) : (clearStatusBits s).errorBit e = false := by
  cases e <;> rfl

/-! ### The two ends of a host transaction -/

/-- How a host transaction ends as far as errors go, for `dir` true where it is no read: refused with one error raised, which is
ERR_BUSY only while BUSY is 1, or accepted with no error bit set that was not. -/
inductive AccessEnds (dir : Bool) (s : State) : State → Prop where
  | refused (e : ErrorBit) : (e = .busy → s.busy = true) → AccessEnds dir s (raiseFor dir e s)
  | accepted {u : State} : (∀ e, u.errorBit e = true → s.errorBit e = true) → AccessEnds dir s u

/-- The error bit that a transaction newly sets is that of its refusal, so the refusal is all that happened (R262, R263). -/
theorem AccessEnds.refused_of_errorBit {dir : Bool} {s u : State} (hu : AccessEnds dir s u) {e : ErrorBit}
    (hclear : s.errorBit e = false) (hset : u.errorBit e = true) :
    (e = .busy → s.busy = true) ∧ u = raiseFor dir e s := by
  cases hu with
  | refused e' hbusy =>
    have hbit := (errorBit_raiseFor dir e' e s).mp hset
    obtain rfl : e = e' := hbit.resolve_right (by simp [hclear])
    exact ⟨hbusy, rfl⟩
  | accepted hkept => simp [hkept e hset] at hclear

/-- Each check of R210 that fails raises its one error and ends the procedure; of the effects behind the checks only
CLEAR_STATUS touches the error bits, and it clears them. -/
theorem busAccess_ends (dir : Bool) (off n : Nat) (wdata : Word) (s : State) :
    AccessEnds dir s (busAccess dir off n wdata s) := by
  have hsame {u : State} (hu : u.errorBit = s.errorBit) : AccessEnds dir s u := .accepted fun _ hbit => hu ▸ hbit
  unfold busAccess
  refine iteInduction (fun _ => .refused .acc nofun) fun _ => ?_
  refine iteInduction (fun _ => .refused .acc nofun) fun _ => ?_
  refine iteInduction (fun _ => .refused .acc nofun) fun _ => ?_
  refine iteInduction (fun _ => .refused .cmd nofun) fun _ => ?_
  refine iteInduction (fun hgate => .refused .busy fun _ => hgate.left) fun _ => ?_
  refine iteInduction (fun hgate => .refused .busy fun _ => hgate.left) fun _ => ?_
  refine iteInduction (fun _ => iteInduction (fun _ => ?command) fun _ => ?registerWrite) fun _ => ?read
  case command =>
    refine iteInduction (fun _ => hsame rfl) fun _ => ?_
    refine iteInduction (fun _ => hsame rfl) fun _ => ?_
    refine iteInduction (fun _ => hsame rfl) fun _ => ?_
    exact iteInduction (fun _ => hsame rfl) fun _ => .accepted (by simp)
  case registerWrite => exact iteInduction (fun _ => hsame rfl) fun _ => hsame rfl
  case read =>
    refine iteInduction (fun _ => hsame rfl) fun _ => ?_
    refine iteInduction (fun _ => hsame rfl) fun _ => ?_
    exact iteInduction (fun _ => hsame rfl) fun _ => hsame rfl

/-! ### Every transaction -/

theorem hostStep_ends {tx : Transaction} {s u : State} (h : hostStep tx s = .next u) :
    AccessEnds tx.writes s u := by
  rw [hostStepIsBusAccess] at h
  cases h
  cases tx with
  | read off n => exact busAccess_ends false off.toNat n 0 s
  | write off n v => exact busAccess_ends true off.toNat n v s
  | command v => exact busAccess_ends true 0x000 8 v s

/-- Settles O27: a transaction that sets a clear error bit ends in the refusal that raises it, which is a state update that
differs between reads and writes only in the word returned. -/
theorem refusalIsPreciseAndSetsOneBit : Obligations.RefusalIsPreciseAndSetsOneBit := by
  intro tx s u hstep
  have hrefused {e : ErrorBit} := (hostStep_ends hstep).refused_of_errorBit (e := e)
  cases tx with
  | read | write | command =>
    refine ⟨fun hclear hset => ?_, fun hclear hset => ?_, fun hclear hset => ?_⟩
    · exact (hrefused (e := .acc) hclear hset).right
    · obtain ⟨hbusy, hu⟩ := hrefused (e := .busy) hclear hset
      exact ⟨hbusy rfl, hu⟩
    · exact (hrefused (e := .cmd) hclear hset).right

end Sys2Proof.Machine
end

section
/-! PROOFS. The step of one instance of a platform (R270). -/

namespace Sys2Proof.Machine

/-- What a step of instance k can be: the step of the state that stands there, put back in its place, or none where k is no
instance. -/
theorem stepAt_cases {p q : Platform} {k : Nat} (h : p.stepAt k = .next q) :
    (p.engines[k]? = none ∧ q = p) ∨
    (∃ s u, p.engines[k]? = some s ∧ step s = .next u ∧ q.engines = p.engines.set k u) := by
  unfold Platform.stepAt at h
  split at h
  · rename_i hnone
    cases h
    exact .inl ⟨hnone, rfl⟩
  · rename_i s hs
    split at h
    · rename_i u hu
      cases h
      exact .inr ⟨s, u, hs, hu, rfl⟩
    · cases h
    · cases h

/-- Settles O57: the step writes the list of instances at place k alone. -/
theorem instancesAreIndependent : Obligations.InstancesAreIndependent := by
  intro p q k h
  rcases stepAt_cases h with ⟨hnone, rfl⟩ | ⟨s, u, hs, hstep, hq⟩
  · exact ⟨fun _ _ => rfl, by simp [hnone]⟩
  · obtain ⟨hk, -⟩ := List.getElem?_eq_some_iff.mp hs
    refine ⟨fun j hj => ?_, fun s' hs' => ⟨u, ?_, ?_⟩⟩
    · rw [hq, List.getElem?_set_ne hj.symm]
    · rwa [← Option.some.inj (hs.symm.trans hs')]
    · rw [hq, List.getElem?_set_self hk]

end Sys2Proof.Machine
end

section
/-! PROOFS. The reset event, taken as a step (R280). -/

namespace Sys2Proof.Machine

/-- Settles O40: the step at a reset turn is the reset event of the state without that turn, which writes each element of R37
and keeps the two fields of the model's own. Nothing is asked of BUSY, so a running COMPRESS is abandoned. -/
theorem resetEventClearsTheEngine : Obligations.ResetEventClearsTheEngine := by
  intro s rest hturns
  calc step s = .next (resetEvent { s with turns := rest }) := step_of_reset_turn hturns
    _ = .next { State.reset with rdata := s.rdata, turns := rest } := by rw [resetEvent]

end Sys2Proof.Machine
end
